-- ==== Sys2Proof/Word.lean ====
section
/-! DEFINITION. The word types of the block: bytes, 16-bit code words, 32-bit registers, and bit
strings with their first (earliest in the stream) bit at the head of the list (spec R5). -/

namespace Sys2Proof

/-- A byte of BUF or OBUF (R22). -/
abbrev Byte := BitVec 8

/-- A 16-bit code word, or any 16-bit field (R20, R21). -/
abbrev Code := BitVec 16

/-- A 32-bit register, operand or result field (R11, R54). -/
abbrev Word32 := BitVec 32

/-- A bit string, its first bit at the head (R5). -/
abbrev Bits := List Bool

end Sys2Proof
end

