-- ==== Sys2Proof/Machine/Bits.lean ====
section
/-! DEFINITION. Bit strings read as numbers and numbers written as bit strings, first bit most
significant (R5, R6), the two fields of a code word (R7 `pack`, R21), and the rounding functions of R6. -/

namespace Sys2Proof.Machine

/-- `u(b)`: a bit string as an unsigned number, leftmost bit at weight 2^(n-1) (R5, R6). -/
def bitsToNat (b : Bits) : Nat :=
  b.foldl (fun acc x => 2 * acc + x.toNat) 0

/-- The `n` low bits of `v` as a bit string, bit `n-1` first (R5; `tc_n` of R6 on the bits of a value). -/
def natToBits : Nat → Nat → Bits
  | 0, _ => []
  | n + 1, v => v.testBit n :: natToBits n v

/-- The bits of a bit vector, most significant first (`tc_n` of R6). -/
def wordBits {n : Nat} (v : BitVec n) : Bits :=
  natToBits n v.toNat

/-- `pack(t, b)`: the code word with top field `t` and bottom field `b` (R7). -/
def pack (t : BitVec 6) (b : BitVec 10) : Code :=
  t ++ b

/-- `w[15:10]`, the top field of a code word (R21). -/
def topField (w : Code) : BitVec 6 :=
  w.extractLsb' 10 6

/-- `w[9:0]`, the bottom field of a code word as ten bits (R21). -/
def bottomField (w : Code) : BitVec 10 :=
  w.extractLsb' 0 10

/-- `s10(w)`: the bottom field as a signed number, -512..511 (R6). -/
def s10 (w : Code) : Int :=
  (bottomField w).toInt

/-- `sext_32` of the `n`-bit value `v`: `v - 2^n` if bit `n-1` is set, else `v` (R6, R62). -/
def sext32 (n v : Nat) : Word32 :=
  if v.testBit (n - 1) then BitVec.ofInt 32 ((v : Int) - (2 : Int) ^ n) else BitVec.ofNat 32 v

/-- `ceil_div(a, b)` (R6). -/
def ceilDiv (a b : Nat) : Nat :=
  (a + (b - 1)) / b

/-- `round_up_32(x)`: the least multiple of 32 that is at least `x` (R6). -/
def roundUp32 (x : Nat) : Nat :=
  32 * ceilDiv x 32

/-- One bit as a number, for a register view. -/
def flagWord {n : Nat} (b : Bool) : BitVec n :=
  BitVec.ofNat n b.toNat

/-- The bits of a byte sequence in plain byte order, each byte's bit 7 first. -/
def bytesBits : List Byte → Bits
  | [] => []
  | b :: bs => wordBits b ++ bytesBits bs

end Sys2Proof.Machine
end

