-- ==== Sys2Proof/Machine/Codebook.lean ====
section
/-! DEFINITION. The VLC codebook as data (R68): entries of a prefix and a kind, the five conditions a
table must meet to be admitted (a table that fails one cannot be built into a `Codebook`), and
`STRV2_TABLE` (R48). The rows of the table are supplied by the spec from general knowledge, not by its
source (I1-I3): PRESUMED, assumption log 4 and 5. -/

namespace Sys2Proof.Machine

/-- The kind of a codebook entry: a (run, level) pair, or one of the two sentinels (R68). -/
inductive Kind where
  | normal (run level : Nat)
  | eob
  | esc
  deriving DecidableEq, Repr

/-- One entry `(prefix, kind)` of a codebook (R68). -/
structure Entry where
  pfx : Bits
  kind : Kind
  deriving DecidableEq, Repr

/-- The complete codes that an entry stands for: a table prefix with both sign bits, a sentinel as it
is (R68 item 4). -/
def entryCodes (e : Entry) : List Bits :=
  match e.kind with
  | .normal _ _ => [e.pfx ++ [false], e.pfx ++ [true]]
  | .eob => [e.pfx]
  | .esc => [e.pfx]

/-- Neither string is a prefix of the other: they differ at a position that both have. -/
def diverges : Bits → Bits → Bool
  | false :: as, false :: bs => diverges as bs
  | true :: as, true :: bs => diverges as bs
  | false :: _, true :: _ => true
  | true :: _, false :: _ => true
  | [], _ => false
  | _ :: _, [] => false

/-- No code of the list is a prefix of another (R68 item 4). -/
def prefixFree : List Bits → Bool
  | [] => true
  | c :: cs => cs.all (diverges c) && prefixFree cs

/-- The rests of the strings that begin with `b`. -/
def tailsOf (b : Bool) : List Bits → List Bits
  | [] => []
  | [] :: cs => tailsOf b cs
  | (x :: xs) :: cs => if x = b then xs :: tailsOf b cs else tailsOf b cs

/-- The same property as `prefixFree`, checked by splitting on the first bit: what the kernel evaluates
on a long table. `prefixFree_of_splitFree` says that it implies `prefixFree`. -/
def splitFree : Nat → List Bits → Bool
  | 0, cs => cs.length ≤ 1
  | n + 1, cs =>
    cs.length ≤ 1 || (!cs.contains [] && splitFree n (tailsOf false cs) && splitFree n (tailsOf true cs))

theorem mem_tailsOf {b : Bool} {xs : Bits} {cs : List Bits} (h : (b :: xs) ∈ cs) : xs ∈ tailsOf b cs := by
  induction cs with
  | nil => cases h
  | cons c cs ih =>
    rcases List.mem_cons.mp h with rfl | h
    · simp [tailsOf]
    · have ht := ih h
      cases c with
      | nil => exact ht
      | cons x _ => by_cases hx : x = b <;> simp [tailsOf, hx, ht]

theorem diverges_cons (x : Bool) (as bs : Bits) : diverges (x :: as) (x :: bs) = diverges as bs := by
  cases x <;> rfl

theorem diverges_of_ne {x y : Bool} (h : x ≠ y) (as bs : Bits) : diverges (x :: as) (y :: bs) = true := by
  cases x <;> cases y <;> simp_all [diverges]

theorem prefixFree_of_tails {cs : List Bits} (h0 : [] ∉ cs) (hf : prefixFree (tailsOf false cs) = true)
    (ht : prefixFree (tailsOf true cs) = true) : prefixFree cs = true := by
  induction cs with
  | nil => rfl
  | cons c cs ih =>
    match c with
    | [] => simp at h0
    | x :: xs =>
      have hx : prefixFree (tailsOf x ((x :: xs) :: cs)) = true := by cases x <;> assumption
      have hrest : prefixFree cs = true := by
        refine ih (fun h => h0 (List.mem_cons_of_mem _ h)) ?_ ?_ <;> cases x <;>
          simp_all [tailsOf, prefixFree]
      simp only [tailsOf, if_pos, prefixFree, Bool.and_eq_true, List.all_eq_true] at hx ⊢
      refine ⟨fun c' hc' => ?_, hrest⟩
      match c' with
      | [] => exact absurd hc' (fun h => h0 (List.mem_cons_of_mem _ h))
      | y :: ys =>
        by_cases hy : x = y
        · subst hy
          rw [diverges_cons]
          exact hx.1 ys (mem_tailsOf hc')
        · exact diverges_of_ne hy xs ys

/-- The fast check implies the property of R68 item 4. -/
theorem prefixFree_of_splitFree {n : Nat} {cs : List Bits} (h : splitFree n cs = true) : prefixFree cs = true := by
  induction n generalizing cs with
  | zero =>
    match cs, h with
    | [], _ => rfl
    | [c], _ => rfl
  | succ n ih =>
    simp only [splitFree, Bool.or_eq_true, Bool.and_eq_true, Bool.not_eq_true'] at h
    rcases h with h | ⟨⟨h0, hf⟩, ht⟩
    · match cs, h with
      | [], _ => rfl
      | [c], _ => rfl
    · exact prefixFree_of_tails (by simpa using h0) (ih hf) (ih ht)

/-- The (run, level) pairs of the NORMAL entries, in table order. -/
def normalPairs : List Entry → List (Nat × Nat)
  | [] => []
  | e :: es =>
    match e.kind with
    | .normal run level => (run, level) :: normalPairs es
    | .eob => normalPairs es
    | .esc => normalPairs es

/-- No pair stands twice in the list (R68 item 3). -/
def pairsDistinct : List (Nat × Nat) → Bool
  | [] => true
  | p :: ps => !ps.contains p && pairsDistinct ps

/-- A NORMAL entry's ranges: run 0..63, level 1..511 (R68 item 2). -/
def pairInRange (p : Nat × Nat) : Bool :=
  p.1 ≤ 63 && 1 ≤ p.2 && p.2 ≤ 511

/-- The conditions of R68 on a table, items 1 to 5 in order, with the prefix lengths 1..`maxLen`. -/
def tableAdmitted (maxLen : Nat) (es : List Entry) : Bool :=
  (es.countP (fun e => e.kind == .eob) == 1 && es.countP (fun e => e.kind == .esc) == 1) &&
  (normalPairs es).all pairInRange &&
  pairsDistinct (normalPairs es) &&
  prefixFree (es.flatMap entryCodes) &&
  es.all (fun e => 1 ≤ e.pfx.length && e.pfx.length ≤ maxLen)

/-- `tableAdmitted` from its five conditions, item 4 by the fast check. -/
theorem tableAdmitted_of_split {maxLen : Nat} {es : List Entry}
    (h1 : (es.countP (fun e => e.kind == .eob) == 1 && es.countP (fun e => e.kind == .esc) == 1) = true)
    (h2 : (normalPairs es).all pairInRange = true) (h3 : pairsDistinct (normalPairs es) = true)
    (h4 : splitFree (maxLen + 1) (es.flatMap entryCodes) = true)
    (h5 : es.all (fun e => 1 ≤ e.pfx.length && e.pfx.length ≤ maxLen) = true) :
    tableAdmitted maxLen es = true := by
  unfold tableAdmitted
  rw [h1, h2, h3, prefixFree_of_splitFree h4, h5]
  rfl

/-- A codebook: a table, its `MAX_PREFIX_LEN`, and the proof that R68 admits it ("A model checks them
when it builds the configuration and refuses a table that fails one"). -/
structure Codebook where
  entries : List Entry
  maxLen : Nat
  admitted : tableAdmitted maxLen entries = true

/-- A table row: the prefix as `len` binary digits, and its (run, level) pair. -/
def row (len digits run level : Nat) : Entry :=
  ⟨natToBits len digits, .normal run level⟩

/-- `STRV2_TABLE` rows 1 to 19 (R48). -/
def strv2Rows1 : List Entry :=
  [row 2 0b11 0 1,
   row 3 0b011 1 1,
   row 4 0b0100 0 2,
   row 4 0b0101 2 1,
   row 5 0b00101 0 3,
   row 5 0b00110 4 1,
   row 5 0b00111 3 1,
   row 6 0b000100 7 1,
   row 6 0b000101 6 1,
   row 6 0b000110 1 2,
   row 6 0b000111 5 1,
   row 7 0b0000100 2 2,
   row 7 0b0000101 9 1,
   row 7 0b0000110 0 4,
   row 7 0b0000111 8 1,
   row 8 0b00100000 13 1,
   row 8 0b00100001 0 6,
   row 8 0b00100010 12 1,
   row 8 0b00100011 11 1]

/-- `STRV2_TABLE` rows 20 to 38 (R48). -/
def strv2Rows2 : List Entry :=
  [row 8 0b00100100 3 2,
   row 8 0b00100101 1 3,
   row 8 0b00100110 0 5,
   row 8 0b00100111 10 1,
   row 10 0b0000001000 16 1,
   row 10 0b0000001001 5 2,
   row 10 0b0000001010 0 7,
   row 10 0b0000001011 2 3,
   row 10 0b0000001100 1 4,
   row 10 0b0000001101 15 1,
   row 10 0b0000001110 14 1,
   row 10 0b0000001111 4 2,
   row 12 0b000000010000 0 11,
   row 12 0b000000010001 8 2,
   row 12 0b000000010010 4 3,
   row 12 0b000000010011 0 10,
   row 12 0b000000010100 2 4,
   row 12 0b000000010101 7 2,
   row 12 0b000000010110 21 1]

/-- `STRV2_TABLE` rows 39 to 57 (R48). -/
def strv2Rows3 : List Entry :=
  [row 12 0b000000010111 20 1,
   row 12 0b000000011000 0 9,
   row 12 0b000000011001 19 1,
   row 12 0b000000011010 18 1,
   row 12 0b000000011011 1 5,
   row 12 0b000000011100 3 3,
   row 12 0b000000011101 0 8,
   row 12 0b000000011110 6 2,
   row 12 0b000000011111 17 1,
   row 13 0b0000000010000 10 2,
   row 13 0b0000000010001 9 2,
   row 13 0b0000000010010 5 3,
   row 13 0b0000000010011 3 4,
   row 13 0b0000000010100 2 5,
   row 13 0b0000000010101 1 7,
   row 13 0b0000000010110 1 6,
   row 13 0b0000000010111 0 15,
   row 13 0b0000000011000 0 14,
   row 13 0b0000000011001 0 13]

/-- `STRV2_TABLE` rows 58 to 76 (R48). -/
def strv2Rows4 : List Entry :=
  [row 13 0b0000000011010 0 12,
   row 13 0b0000000011011 26 1,
   row 13 0b0000000011100 25 1,
   row 13 0b0000000011101 24 1,
   row 13 0b0000000011110 23 1,
   row 13 0b0000000011111 22 1,
   row 14 0b00000000010000 0 31,
   row 14 0b00000000010001 0 30,
   row 14 0b00000000010010 0 29,
   row 14 0b00000000010011 0 28,
   row 14 0b00000000010100 0 27,
   row 14 0b00000000010101 0 26,
   row 14 0b00000000010110 0 25,
   row 14 0b00000000010111 0 24,
   row 14 0b00000000011000 0 23,
   row 14 0b00000000011001 0 22,
   row 14 0b00000000011010 0 21,
   row 14 0b00000000011011 0 20,
   row 14 0b00000000011100 0 19]

/-- `STRV2_TABLE` rows 77 to 95 (R48). -/
def strv2Rows5 : List Entry :=
  [row 14 0b00000000011101 0 18,
   row 14 0b00000000011110 0 17,
   row 14 0b00000000011111 0 16,
   row 15 0b000000000010000 0 40,
   row 15 0b000000000010001 0 39,
   row 15 0b000000000010010 0 38,
   row 15 0b000000000010011 0 37,
   row 15 0b000000000010100 0 36,
   row 15 0b000000000010101 0 35,
   row 15 0b000000000010110 0 34,
   row 15 0b000000000010111 0 33,
   row 15 0b000000000011000 0 32,
   row 15 0b000000000011001 1 14,
   row 15 0b000000000011010 1 13,
   row 15 0b000000000011011 1 12,
   row 15 0b000000000011100 1 11,
   row 15 0b000000000011101 1 10,
   row 15 0b000000000011110 1 9,
   row 15 0b000000000011111 1 8]

/-- `STRV2_TABLE` rows 96 to 111 (R48). -/
def strv2Rows6 : List Entry :=
  [row 16 0b0000000000010000 1 18,
   row 16 0b0000000000010001 1 17,
   row 16 0b0000000000010010 1 16,
   row 16 0b0000000000010011 1 15,
   row 16 0b0000000000010100 6 3,
   row 16 0b0000000000010101 16 2,
   row 16 0b0000000000010110 15 2,
   row 16 0b0000000000010111 14 2,
   row 16 0b0000000000011000 13 2,
   row 16 0b0000000000011001 12 2,
   row 16 0b0000000000011010 11 2,
   row 16 0b0000000000011011 31 1,
   row 16 0b0000000000011100 30 1,
   row 16 0b0000000000011101 29 1,
   row 16 0b0000000000011110 28 1,
   row 16 0b0000000000011111 27 1]

/-- `STRV2_TABLE` (R48): the end-of-block code `10` (R46), the escape prefix `000001` (R45) and the
111 (run, level) rows. -/
def strv2Table : List Entry :=
  ⟨natToBits 2 0b10, .eob⟩ :: ⟨natToBits 6 0b000001, .esc⟩ ::
    (strv2Rows1 ++ strv2Rows2 ++ strv2Rows3 ++ strv2Rows4 ++ strv2Rows5 ++ strv2Rows6)

end Sys2Proof.Machine
end

