-- ==== Sys2Proof/Config.lean ====
section
/-! DEFINITION. The implementation parameters of R4, and the free values. A parameter with a value "for
this hardware" is a definition; `BUF_MAX`, which the spec leaves OPEN, is a constant without a body. -/

namespace Sys2Proof.Config

open Sys2Proof.Machine

/-- `READ_MIN` (R4). -/
def readMin : Nat := 1

/-- `READ_MAX` (R4). -/
def readMax : Nat := 32

/-- `BLOCKS_PER_MB` (R4). -/
def blocksPerMb : Nat := 6

/-- `EOD_WORD`, the end-of-block word on the code ports: top 63, bottom -512 (R4). PRESUMED, from
general knowledge (I4), unsafe: assumption log 6. -/
def eodWord : Code := 0xFE00#16

/-- `ESC_PREFIX` (R4, R45). PRESUMED (I2), unsafe: assumption log 5. -/
def escPrefix : Bits := natToBits 6 0b000001

/-- `EOB_CODE` (R4, R46). PRESUMED (I2), unsafe: assumption log 5. -/
def eobCode : Bits := natToBits 2 0b10

/-- `TRAILER`, 11 bits (R4, R47). -/
def trailer : Bits := natToBits 11 0b01111111110

/-- `MAGIC` (R4, R94). -/
def magic : Code := 0x3800#16

/-- `VERSION` (R4, R94, D34). -/
def version : Code := 2#16

/-- `HEADER_BYTES` (R4). -/
def headerBytes : Nat := 8

/-- `WCAP`, the writer's capacity in bits (R4, R59). -/
def wcap : Nat := 2 ^ 32 - 1

/-- `BUF_MAX`, the largest input buffer in bytes, OPEN in the spec with 8·BUF_MAX < 2^32 (R4, U5): any
number below 2^29. Nothing can be proved of its value but the bound (assumption log 3, safe). -/
opaque bufMax : Fin (2 ^ 29)

/-- The free value of the one result the spec leaves open (`REG_READ` of an unknown number in FAULT, R102,
R111), read at the state's counter: nothing constrains it (assumption log 9, safe). -/
opaque freeValue : Nat → Word32

/-- `CODEBOOK = STRV2_TABLE` with `MAX_PREFIX_LEN = 16` (R4, R48), checked against R68 when it is built.
PRESUMED (I1, I5), unsafe: assumption log 4. -/
def codebook : Codebook := 
  ⟨strv2Table, 16, tableAdmitted_of_split (by decide +kernel) (by decide +kernel) (by decide +kernel)
    (by decide +kernel) (by decide +kernel)⟩

end Sys2Proof.Config
end

