-- ==== Sys2Proof/Syntax.lean ====
section
/-! DEFINITION. The syntax: byte order and qscale placement (R4), the host command as the port carries
it (R54), and ONE inductive of instructions, one constructor per row of spec/opcode_table.json: the
stream formats DC_GLOBAL, DC_PER_BLOCK, VLC (111 rows), EOB, ESC and TRAILER (R42-R48) and the 22 host
commands (R55). Operands are the fields the encodings give, at their widths. -/

namespace Sys2Proof

/-- `ORDER`, the byte order of the bit buffer: 0 = LE16, 1 = BE16 (R4, R11). -/
inductive Order where
  | le16
  | be16
  deriving DecidableEq, Repr

/-- `QMODE`, where qscale lives: 0 = GLOBAL, 1 = PER_BLOCK (R4, R11). -/
inductive QMode where
  | global
  | perBlock
  deriving DecidableEq, Repr

/-- A host command as the command port carries it: the command word, three 32-bit operand fields and
the byte sequence of the data port (R54). -/
structure Command where
  cmd : BitVec 8
  a : Word32
  b : Word32
  c : Word32
  data : List Byte
  deriving DecidableEq, Repr

/-- The instructions. A stream element carries the operand bits of its format; a VLC row carries its
sign bit `neg` (1 = minus level, R44); a command carries the operand fields of R55. -/
inductive Instr where
  /-- `DC_GLOBAL`: 10 bits, the DC level (R42). -/
  | dcGlobal (d : BitVec 10)
  /-- `DC_PER_BLOCK`: 6-bit qscale and 10-bit DC level (R43). -/
  | dcPerBlock (q : BitVec 6) (d : BitVec 10)
  | vlcR0L1 (neg : Bool)
  | vlcR1L1 (neg : Bool)
  | vlcR0L2 (neg : Bool)
  | vlcR2L1 (neg : Bool)
  | vlcR0L3 (neg : Bool)
  | vlcR4L1 (neg : Bool)
  | vlcR3L1 (neg : Bool)
  | vlcR7L1 (neg : Bool)
  | vlcR6L1 (neg : Bool)
  | vlcR1L2 (neg : Bool)
  | vlcR5L1 (neg : Bool)
  | vlcR2L2 (neg : Bool)
  | vlcR9L1 (neg : Bool)
  | vlcR0L4 (neg : Bool)
  | vlcR8L1 (neg : Bool)
  | vlcR13L1 (neg : Bool)
  | vlcR0L6 (neg : Bool)
  | vlcR12L1 (neg : Bool)
  | vlcR11L1 (neg : Bool)
  | vlcR3L2 (neg : Bool)
  | vlcR1L3 (neg : Bool)
  | vlcR0L5 (neg : Bool)
  | vlcR10L1 (neg : Bool)
  | vlcR16L1 (neg : Bool)
  | vlcR5L2 (neg : Bool)
  | vlcR0L7 (neg : Bool)
  | vlcR2L3 (neg : Bool)
  | vlcR1L4 (neg : Bool)
  | vlcR15L1 (neg : Bool)
  | vlcR14L1 (neg : Bool)
  | vlcR4L2 (neg : Bool)
  | vlcR0L11 (neg : Bool)
  | vlcR8L2 (neg : Bool)
  | vlcR4L3 (neg : Bool)
  | vlcR0L10 (neg : Bool)
  | vlcR2L4 (neg : Bool)
  | vlcR7L2 (neg : Bool)
  | vlcR21L1 (neg : Bool)
  | vlcR20L1 (neg : Bool)
  | vlcR0L9 (neg : Bool)
  | vlcR19L1 (neg : Bool)
  | vlcR18L1 (neg : Bool)
  | vlcR1L5 (neg : Bool)
  | vlcR3L3 (neg : Bool)
  | vlcR0L8 (neg : Bool)
  | vlcR6L2 (neg : Bool)
  | vlcR17L1 (neg : Bool)
  | vlcR10L2 (neg : Bool)
  | vlcR9L2 (neg : Bool)
  | vlcR5L3 (neg : Bool)
  | vlcR3L4 (neg : Bool)
  | vlcR2L5 (neg : Bool)
  | vlcR1L7 (neg : Bool)
  | vlcR1L6 (neg : Bool)
  | vlcR0L15 (neg : Bool)
  | vlcR0L14 (neg : Bool)
  | vlcR0L13 (neg : Bool)
  | vlcR0L12 (neg : Bool)
  | vlcR26L1 (neg : Bool)
  | vlcR25L1 (neg : Bool)
  | vlcR24L1 (neg : Bool)
  | vlcR23L1 (neg : Bool)
  | vlcR22L1 (neg : Bool)
  | vlcR0L31 (neg : Bool)
  | vlcR0L30 (neg : Bool)
  | vlcR0L29 (neg : Bool)
  | vlcR0L28 (neg : Bool)
  | vlcR0L27 (neg : Bool)
  | vlcR0L26 (neg : Bool)
  | vlcR0L25 (neg : Bool)
  | vlcR0L24 (neg : Bool)
  | vlcR0L23 (neg : Bool)
  | vlcR0L22 (neg : Bool)
  | vlcR0L21 (neg : Bool)
  | vlcR0L20 (neg : Bool)
  | vlcR0L19 (neg : Bool)
  | vlcR0L18 (neg : Bool)
  | vlcR0L17 (neg : Bool)
  | vlcR0L16 (neg : Bool)
  | vlcR0L40 (neg : Bool)
  | vlcR0L39 (neg : Bool)
  | vlcR0L38 (neg : Bool)
  | vlcR0L37 (neg : Bool)
  | vlcR0L36 (neg : Bool)
  | vlcR0L35 (neg : Bool)
  | vlcR0L34 (neg : Bool)
  | vlcR0L33 (neg : Bool)
  | vlcR0L32 (neg : Bool)
  | vlcR1L14 (neg : Bool)
  | vlcR1L13 (neg : Bool)
  | vlcR1L12 (neg : Bool)
  | vlcR1L11 (neg : Bool)
  | vlcR1L10 (neg : Bool)
  | vlcR1L9 (neg : Bool)
  | vlcR1L8 (neg : Bool)
  | vlcR1L18 (neg : Bool)
  | vlcR1L17 (neg : Bool)
  | vlcR1L16 (neg : Bool)
  | vlcR1L15 (neg : Bool)
  | vlcR6L3 (neg : Bool)
  | vlcR16L2 (neg : Bool)
  | vlcR15L2 (neg : Bool)
  | vlcR14L2 (neg : Bool)
  | vlcR13L2 (neg : Bool)
  | vlcR12L2 (neg : Bool)
  | vlcR11L2 (neg : Bool)
  | vlcR31L1 (neg : Bool)
  | vlcR30L1 (neg : Bool)
  | vlcR29L1 (neg : Bool)
  | vlcR28L1 (neg : Bool)
  | vlcR27L1 (neg : Bool)
  /-- `EOB`: the end-of-block code (R46). -/
  | eob
  /-- `ESC`: escape prefix, 6-bit run, 10-bit level (R45). -/
  | esc (r : BitVec 6) (l : BitVec 10)
  /-- `TRAILER`: the 11-bit trailing pattern (R47). -/
  | trailer
  /-- `DEC_RESET` (R101). -/
  | decReset
  /-- `DEC_REG_READ n` (R102). -/
  | decRegRead (n : BitVec 8)
  /-- `BR_INIT DATA, order, offset` (R60). -/
  | brInit (order : Order) (offset : Word32) (data : List Byte)
  /-- `BR_READU n` (R61). -/
  | brReadU (n : BitVec 6)
  /-- `BR_READS n` (R62). -/
  | brReadS (n : BitVec 6)
  /-- `BR_POS` (R63). -/
  | brPos
  /-- `CB_DECODE` (R72). -/
  | cbDecode
  /-- `HDR_PARSE` (R96). -/
  | hdrParse
  /-- `DEC_START qmode, qscale, mbtotal` (R76). -/
  | decStart (qmode : QMode) (qscale : BitVec 6) (mbtotal : BitVec 16)
  /-- `DEC_STEP` (R77). -/
  | decStep
  /-- `DEC_SKIP_MB` (R81). -/
  | decSkipMb
  /-- `DEC_SKIP_PADDING` (R83). -/
  | decSkipPadding
  /-- `ENC_RESET` (R101). -/
  | encReset
  /-- `ENC_REG_READ n` (R102). -/
  | encRegRead (n : BitVec 8)
  /-- `BW_INIT order` (R64). -/
  | bwInit (order : Order)
  /-- `BW_WRITE value, n` (R65). -/
  | bwWrite (value : Word32) (n : BitVec 6)
  /-- `BW_POS` (R66). -/
  | bwPos
  /-- `BW_FLUSH` (R67). -/
  | bwFlush
  /-- `CB_LOOKUP run, level` (R74). -/
  | cbLookup (run : BitVec 6) (level : BitVec 10)
  /-- `ENC_START mbtotal, version` (R85). -/
  | encStart (mbtotal : BitVec 16) (version : BitVec 16)
  /-- `ENC_PUT w` (R86). -/
  | encPut (w : Code)
  /-- `ENC_FINISH` (R91). -/
  | encFinish
  deriving DecidableEq, Repr

end Sys2Proof
end

