-- ==== Sys2Proof/WellFormed.lean ====
section
/-! DEFINITION. Well-formed instructions. The widths of the fields are in the types; what is left to check
are the stream patterns that R51 makes illegal as instructions: an escape or a PER_BLOCK DC field whose 16
raw bits equal `EOD_WORD`. (A GLOBAL DC collides only with the state's qscale 63; R51 case 2.) Every operand
value of a host command is a legal encoding: a value that a rule rejects makes the command raise. -/

namespace Sys2Proof

open Sys2Proof.Machine

/-- The checks of R51 cases 2 and 3. -/
def Instr.wellFormed : Instr → Bool
  | .dcGlobal _ => true
  | .dcPerBlock q d => pack q d != Config.eodWord
  | .esc r l => pack r l != Config.eodWord
  | .eob => true
  | .trailer => true
  | .vlcR0L1 _ => true
  | .vlcR1L1 _ => true
  | .vlcR0L2 _ => true
  | .vlcR2L1 _ => true
  | .vlcR0L3 _ => true
  | .vlcR4L1 _ => true
  | .vlcR3L1 _ => true
  | .vlcR7L1 _ => true
  | .vlcR6L1 _ => true
  | .vlcR1L2 _ => true
  | .vlcR5L1 _ => true
  | .vlcR2L2 _ => true
  | .vlcR9L1 _ => true
  | .vlcR0L4 _ => true
  | .vlcR8L1 _ => true
  | .vlcR13L1 _ => true
  | .vlcR0L6 _ => true
  | .vlcR12L1 _ => true
  | .vlcR11L1 _ => true
  | .vlcR3L2 _ => true
  | .vlcR1L3 _ => true
  | .vlcR0L5 _ => true
  | .vlcR10L1 _ => true
  | .vlcR16L1 _ => true
  | .vlcR5L2 _ => true
  | .vlcR0L7 _ => true
  | .vlcR2L3 _ => true
  | .vlcR1L4 _ => true
  | .vlcR15L1 _ => true
  | .vlcR14L1 _ => true
  | .vlcR4L2 _ => true
  | .vlcR0L11 _ => true
  | .vlcR8L2 _ => true
  | .vlcR4L3 _ => true
  | .vlcR0L10 _ => true
  | .vlcR2L4 _ => true
  | .vlcR7L2 _ => true
  | .vlcR21L1 _ => true
  | .vlcR20L1 _ => true
  | .vlcR0L9 _ => true
  | .vlcR19L1 _ => true
  | .vlcR18L1 _ => true
  | .vlcR1L5 _ => true
  | .vlcR3L3 _ => true
  | .vlcR0L8 _ => true
  | .vlcR6L2 _ => true
  | .vlcR17L1 _ => true
  | .vlcR10L2 _ => true
  | .vlcR9L2 _ => true
  | .vlcR5L3 _ => true
  | .vlcR3L4 _ => true
  | .vlcR2L5 _ => true
  | .vlcR1L7 _ => true
  | .vlcR1L6 _ => true
  | .vlcR0L15 _ => true
  | .vlcR0L14 _ => true
  | .vlcR0L13 _ => true
  | .vlcR0L12 _ => true
  | .vlcR26L1 _ => true
  | .vlcR25L1 _ => true
  | .vlcR24L1 _ => true
  | .vlcR23L1 _ => true
  | .vlcR22L1 _ => true
  | .vlcR0L31 _ => true
  | .vlcR0L30 _ => true
  | .vlcR0L29 _ => true
  | .vlcR0L28 _ => true
  | .vlcR0L27 _ => true
  | .vlcR0L26 _ => true
  | .vlcR0L25 _ => true
  | .vlcR0L24 _ => true
  | .vlcR0L23 _ => true
  | .vlcR0L22 _ => true
  | .vlcR0L21 _ => true
  | .vlcR0L20 _ => true
  | .vlcR0L19 _ => true
  | .vlcR0L18 _ => true
  | .vlcR0L17 _ => true
  | .vlcR0L16 _ => true
  | .vlcR0L40 _ => true
  | .vlcR0L39 _ => true
  | .vlcR0L38 _ => true
  | .vlcR0L37 _ => true
  | .vlcR0L36 _ => true
  | .vlcR0L35 _ => true
  | .vlcR0L34 _ => true
  | .vlcR0L33 _ => true
  | .vlcR0L32 _ => true
  | .vlcR1L14 _ => true
  | .vlcR1L13 _ => true
  | .vlcR1L12 _ => true
  | .vlcR1L11 _ => true
  | .vlcR1L10 _ => true
  | .vlcR1L9 _ => true
  | .vlcR1L8 _ => true
  | .vlcR1L18 _ => true
  | .vlcR1L17 _ => true
  | .vlcR1L16 _ => true
  | .vlcR1L15 _ => true
  | .vlcR6L3 _ => true
  | .vlcR16L2 _ => true
  | .vlcR15L2 _ => true
  | .vlcR14L2 _ => true
  | .vlcR13L2 _ => true
  | .vlcR12L2 _ => true
  | .vlcR11L2 _ => true
  | .vlcR31L1 _ => true
  | .vlcR30L1 _ => true
  | .vlcR29L1 _ => true
  | .vlcR28L1 _ => true
  | .vlcR27L1 _ => true
  | .decReset => true
  | .decRegRead _ => true
  | .brInit _ _ _ => true
  | .brReadU _ => true
  | .brReadS _ => true
  | .brPos => true
  | .cbDecode => true
  | .hdrParse => true
  | .decStart _ _ _ => true
  | .decStep => true
  | .decSkipMb => true
  | .decSkipPadding => true
  | .encReset => true
  | .encRegRead _ => true
  | .bwInit _ => true
  | .bwWrite _ _ => true
  | .bwPos => true
  | .bwFlush => true
  | .cbLookup _ _ => true
  | .encStart _ _ => true
  | .encPut _ => true
  | .encFinish => true

end Sys2Proof
end

