-- ==== Sys2Proof/Decode.lean ====
section
/-! DEFINITION. Decoding and encoding. A stream element is decoded from the stream's bits at a position
(a DC field's length is "decided by the engine phase, not by its bits", R50); a host command from its
command word and operand fields (R54, R55). The decoder is total and rejects by name. The rows are those of
spec/opcode_table.json (R48, R55). -/

namespace Sys2Proof

open Sys2Proof.Machine

/-- Why the decoder rejects. -/
inductive DecodeError where
  /-- The bits end before the element does (R107: the read that needs them raises `EndOfStream`). -/
  | truncated
  /-- No code begins with these bits (R51 case 1: twelve zeros). -/
  | noCode
  /-- The 16 raw bits equal `EOD_WORD` (R51 cases 2 and 3). -/
  | endOfDataCollision
  /-- The 11 bits at the trailer's place are another pattern (R52 item 3). -/
  | notTrailer
  /-- A command word that is not in R55 (R56). -/
  | illegalCommand (cmd : BitVec 8)
  deriving DecidableEq, Repr

/-- Where an instruction stands: at a block's DC position in either mode, at an AC position, at the
trailer's place, or on the command port (R40, R41, R54). -/
inductive Position where
  | dcGlobal
  | dcPerBlock
  | ac
  | trailer
  | command
  deriving DecidableEq, Repr

/-- One VLC row of the opcode table: prefix, run, level, and the instruction for each sign bit (R44, R48). -/
structure VlcRow where
  pfx : Bits
  run : Nat
  level : Nat
  build : Bool → Instr

/-- The first `n` bits, as a bit vector. -/
def headField (n : Nat) (b : Bits) : BitVec n :=
  BitVec.ofNat n (bitsToNat (b.take n))

/-- VLC rows 1 to 19 of the opcode table. -/
def vlcRows1 : List VlcRow :=
  [⟨natToBits 2 0b11, 0, 1, .vlcR0L1⟩,
   ⟨natToBits 3 0b011, 1, 1, .vlcR1L1⟩,
   ⟨natToBits 4 0b0100, 0, 2, .vlcR0L2⟩,
   ⟨natToBits 4 0b0101, 2, 1, .vlcR2L1⟩,
   ⟨natToBits 5 0b00101, 0, 3, .vlcR0L3⟩,
   ⟨natToBits 5 0b00110, 4, 1, .vlcR4L1⟩,
   ⟨natToBits 5 0b00111, 3, 1, .vlcR3L1⟩,
   ⟨natToBits 6 0b000100, 7, 1, .vlcR7L1⟩,
   ⟨natToBits 6 0b000101, 6, 1, .vlcR6L1⟩,
   ⟨natToBits 6 0b000110, 1, 2, .vlcR1L2⟩,
   ⟨natToBits 6 0b000111, 5, 1, .vlcR5L1⟩,
   ⟨natToBits 7 0b0000100, 2, 2, .vlcR2L2⟩,
   ⟨natToBits 7 0b0000101, 9, 1, .vlcR9L1⟩,
   ⟨natToBits 7 0b0000110, 0, 4, .vlcR0L4⟩,
   ⟨natToBits 7 0b0000111, 8, 1, .vlcR8L1⟩,
   ⟨natToBits 8 0b00100000, 13, 1, .vlcR13L1⟩,
   ⟨natToBits 8 0b00100001, 0, 6, .vlcR0L6⟩,
   ⟨natToBits 8 0b00100010, 12, 1, .vlcR12L1⟩,
   ⟨natToBits 8 0b00100011, 11, 1, .vlcR11L1⟩]

/-- VLC rows 20 to 38 of the opcode table. -/
def vlcRows2 : List VlcRow :=
  [⟨natToBits 8 0b00100100, 3, 2, .vlcR3L2⟩,
   ⟨natToBits 8 0b00100101, 1, 3, .vlcR1L3⟩,
   ⟨natToBits 8 0b00100110, 0, 5, .vlcR0L5⟩,
   ⟨natToBits 8 0b00100111, 10, 1, .vlcR10L1⟩,
   ⟨natToBits 10 0b0000001000, 16, 1, .vlcR16L1⟩,
   ⟨natToBits 10 0b0000001001, 5, 2, .vlcR5L2⟩,
   ⟨natToBits 10 0b0000001010, 0, 7, .vlcR0L7⟩,
   ⟨natToBits 10 0b0000001011, 2, 3, .vlcR2L3⟩,
   ⟨natToBits 10 0b0000001100, 1, 4, .vlcR1L4⟩,
   ⟨natToBits 10 0b0000001101, 15, 1, .vlcR15L1⟩,
   ⟨natToBits 10 0b0000001110, 14, 1, .vlcR14L1⟩,
   ⟨natToBits 10 0b0000001111, 4, 2, .vlcR4L2⟩,
   ⟨natToBits 12 0b000000010000, 0, 11, .vlcR0L11⟩,
   ⟨natToBits 12 0b000000010001, 8, 2, .vlcR8L2⟩,
   ⟨natToBits 12 0b000000010010, 4, 3, .vlcR4L3⟩,
   ⟨natToBits 12 0b000000010011, 0, 10, .vlcR0L10⟩,
   ⟨natToBits 12 0b000000010100, 2, 4, .vlcR2L4⟩,
   ⟨natToBits 12 0b000000010101, 7, 2, .vlcR7L2⟩,
   ⟨natToBits 12 0b000000010110, 21, 1, .vlcR21L1⟩]

/-- VLC rows 39 to 57 of the opcode table. -/
def vlcRows3 : List VlcRow :=
  [⟨natToBits 12 0b000000010111, 20, 1, .vlcR20L1⟩,
   ⟨natToBits 12 0b000000011000, 0, 9, .vlcR0L9⟩,
   ⟨natToBits 12 0b000000011001, 19, 1, .vlcR19L1⟩,
   ⟨natToBits 12 0b000000011010, 18, 1, .vlcR18L1⟩,
   ⟨natToBits 12 0b000000011011, 1, 5, .vlcR1L5⟩,
   ⟨natToBits 12 0b000000011100, 3, 3, .vlcR3L3⟩,
   ⟨natToBits 12 0b000000011101, 0, 8, .vlcR0L8⟩,
   ⟨natToBits 12 0b000000011110, 6, 2, .vlcR6L2⟩,
   ⟨natToBits 12 0b000000011111, 17, 1, .vlcR17L1⟩,
   ⟨natToBits 13 0b0000000010000, 10, 2, .vlcR10L2⟩,
   ⟨natToBits 13 0b0000000010001, 9, 2, .vlcR9L2⟩,
   ⟨natToBits 13 0b0000000010010, 5, 3, .vlcR5L3⟩,
   ⟨natToBits 13 0b0000000010011, 3, 4, .vlcR3L4⟩,
   ⟨natToBits 13 0b0000000010100, 2, 5, .vlcR2L5⟩,
   ⟨natToBits 13 0b0000000010101, 1, 7, .vlcR1L7⟩,
   ⟨natToBits 13 0b0000000010110, 1, 6, .vlcR1L6⟩,
   ⟨natToBits 13 0b0000000010111, 0, 15, .vlcR0L15⟩,
   ⟨natToBits 13 0b0000000011000, 0, 14, .vlcR0L14⟩,
   ⟨natToBits 13 0b0000000011001, 0, 13, .vlcR0L13⟩]

/-- VLC rows 58 to 76 of the opcode table. -/
def vlcRows4 : List VlcRow :=
  [⟨natToBits 13 0b0000000011010, 0, 12, .vlcR0L12⟩,
   ⟨natToBits 13 0b0000000011011, 26, 1, .vlcR26L1⟩,
   ⟨natToBits 13 0b0000000011100, 25, 1, .vlcR25L1⟩,
   ⟨natToBits 13 0b0000000011101, 24, 1, .vlcR24L1⟩,
   ⟨natToBits 13 0b0000000011110, 23, 1, .vlcR23L1⟩,
   ⟨natToBits 13 0b0000000011111, 22, 1, .vlcR22L1⟩,
   ⟨natToBits 14 0b00000000010000, 0, 31, .vlcR0L31⟩,
   ⟨natToBits 14 0b00000000010001, 0, 30, .vlcR0L30⟩,
   ⟨natToBits 14 0b00000000010010, 0, 29, .vlcR0L29⟩,
   ⟨natToBits 14 0b00000000010011, 0, 28, .vlcR0L28⟩,
   ⟨natToBits 14 0b00000000010100, 0, 27, .vlcR0L27⟩,
   ⟨natToBits 14 0b00000000010101, 0, 26, .vlcR0L26⟩,
   ⟨natToBits 14 0b00000000010110, 0, 25, .vlcR0L25⟩,
   ⟨natToBits 14 0b00000000010111, 0, 24, .vlcR0L24⟩,
   ⟨natToBits 14 0b00000000011000, 0, 23, .vlcR0L23⟩,
   ⟨natToBits 14 0b00000000011001, 0, 22, .vlcR0L22⟩,
   ⟨natToBits 14 0b00000000011010, 0, 21, .vlcR0L21⟩,
   ⟨natToBits 14 0b00000000011011, 0, 20, .vlcR0L20⟩,
   ⟨natToBits 14 0b00000000011100, 0, 19, .vlcR0L19⟩]

/-- VLC rows 77 to 95 of the opcode table. -/
def vlcRows5 : List VlcRow :=
  [⟨natToBits 14 0b00000000011101, 0, 18, .vlcR0L18⟩,
   ⟨natToBits 14 0b00000000011110, 0, 17, .vlcR0L17⟩,
   ⟨natToBits 14 0b00000000011111, 0, 16, .vlcR0L16⟩,
   ⟨natToBits 15 0b000000000010000, 0, 40, .vlcR0L40⟩,
   ⟨natToBits 15 0b000000000010001, 0, 39, .vlcR0L39⟩,
   ⟨natToBits 15 0b000000000010010, 0, 38, .vlcR0L38⟩,
   ⟨natToBits 15 0b000000000010011, 0, 37, .vlcR0L37⟩,
   ⟨natToBits 15 0b000000000010100, 0, 36, .vlcR0L36⟩,
   ⟨natToBits 15 0b000000000010101, 0, 35, .vlcR0L35⟩,
   ⟨natToBits 15 0b000000000010110, 0, 34, .vlcR0L34⟩,
   ⟨natToBits 15 0b000000000010111, 0, 33, .vlcR0L33⟩,
   ⟨natToBits 15 0b000000000011000, 0, 32, .vlcR0L32⟩,
   ⟨natToBits 15 0b000000000011001, 1, 14, .vlcR1L14⟩,
   ⟨natToBits 15 0b000000000011010, 1, 13, .vlcR1L13⟩,
   ⟨natToBits 15 0b000000000011011, 1, 12, .vlcR1L12⟩,
   ⟨natToBits 15 0b000000000011100, 1, 11, .vlcR1L11⟩,
   ⟨natToBits 15 0b000000000011101, 1, 10, .vlcR1L10⟩,
   ⟨natToBits 15 0b000000000011110, 1, 9, .vlcR1L9⟩,
   ⟨natToBits 15 0b000000000011111, 1, 8, .vlcR1L8⟩]

/-- VLC rows 96 to 111 of the opcode table. -/
def vlcRows6 : List VlcRow :=
  [⟨natToBits 16 0b0000000000010000, 1, 18, .vlcR1L18⟩,
   ⟨natToBits 16 0b0000000000010001, 1, 17, .vlcR1L17⟩,
   ⟨natToBits 16 0b0000000000010010, 1, 16, .vlcR1L16⟩,
   ⟨natToBits 16 0b0000000000010011, 1, 15, .vlcR1L15⟩,
   ⟨natToBits 16 0b0000000000010100, 6, 3, .vlcR6L3⟩,
   ⟨natToBits 16 0b0000000000010101, 16, 2, .vlcR16L2⟩,
   ⟨natToBits 16 0b0000000000010110, 15, 2, .vlcR15L2⟩,
   ⟨natToBits 16 0b0000000000010111, 14, 2, .vlcR14L2⟩,
   ⟨natToBits 16 0b0000000000011000, 13, 2, .vlcR13L2⟩,
   ⟨natToBits 16 0b0000000000011001, 12, 2, .vlcR12L2⟩,
   ⟨natToBits 16 0b0000000000011010, 11, 2, .vlcR11L2⟩,
   ⟨natToBits 16 0b0000000000011011, 31, 1, .vlcR31L1⟩,
   ⟨natToBits 16 0b0000000000011100, 30, 1, .vlcR30L1⟩,
   ⟨natToBits 16 0b0000000000011101, 29, 1, .vlcR29L1⟩,
   ⟨natToBits 16 0b0000000000011110, 28, 1, .vlcR28L1⟩,
   ⟨natToBits 16 0b0000000000011111, 27, 1, .vlcR27L1⟩]

/-- The 111 VLC rows of the opcode table (R48). -/
def vlcRows : List VlcRow :=
  vlcRows1 ++ vlcRows2 ++ vlcRows3 ++ vlcRows4 ++ vlcRows5 ++ vlcRows6

/-- A DC field in GLOBAL mode: 10 bits (R42). -/
def decodeDcGlobal (b : Bits) : Except DecodeError (Instr × Bits) :=
  if b.length < 10 then .error .truncated
  else .ok (.dcGlobal (headField 10 b), b.drop 10)

/-- A DC field in PER_BLOCK mode: 6 bits of qscale, 10 of level (R43); R51 case 2 is rejected. -/
def decodeDcPerBlock (b : Bits) : Except DecodeError (Instr × Bits) :=
  if b.length < 16 then .error .truncated
  else if headField 16 b = Config.eodWord then .error .endOfDataCollision
  else .ok (.dcPerBlock (headField 6 b) (headField 10 (b.drop 6)), b.drop 16)

/-- The rest of an escape after its prefix: 6 bits of run, 10 of level (R45); R51 case 3 is rejected. -/
def decodeEscPayload (b : Bits) : Except DecodeError (Instr × Bits) :=
  if b.length < 16 then .error .truncated
  else if headField 16 b = Config.eodWord then .error .endOfDataCollision
  else .ok (.esc (headField 6 b) (headField 10 (b.drop 6)), b.drop 16)

/-- Some code could still begin with these bits (R107). -/
def couldExtend (b : Bits) : Bool :=
  b.isPrefixOf Config.eobCode || b.isPrefixOf Config.escPrefix || vlcRows.any (fun r => b.isPrefixOf r.pfx)

/-- A code at an AC position: end-of-block, escape, or a table code and its sign bit (R41, R44-R46, R50). -/
def decodeAc (b : Bits) : Except DecodeError (Instr × Bits) :=
  if Config.eobCode.isPrefixOf b then .ok (.eob, b.drop Config.eobCode.length)
  else if Config.escPrefix.isPrefixOf b then decodeEscPayload (b.drop Config.escPrefix.length)
  else
    match vlcRows.find? (fun r => r.pfx.isPrefixOf b) with
    | some r =>
      match b.drop r.pfx.length with
      | [] => .error .truncated
      | sign :: rest => .ok (r.build sign, rest)
    | none => if couldExtend b then .error .truncated else .error .noCode

/-- The 11 bits at the trailer's place (R47). -/
def decodeTrailer (b : Bits) : Except DecodeError (Instr × Bits) :=
  if b.length < Config.trailer.length then .error .truncated
  else if Config.trailer.isPrefixOf b then .ok (.trailer, b.drop Config.trailer.length)
  else .error .notTrailer

/-- `A[0]` as a byte order (R55). -/
def orderOfBit (b : Bool) : Order :=
  if b then .be16 else .le16

/-- A byte order as `A[0]` (R55). -/
def bitOfOrder (o : Order) : Bool :=
  match o with
  | .le16 => false
  | .be16 => true

/-- `A[0]` as a qscale placement (R55). -/
def qmodeOfBit (b : Bool) : QMode :=
  if b then .perBlock else .global

/-- A qscale placement as `A[0]` (R55). -/
def bitOfQMode (q : QMode) : Bool :=
  match q with
  | .global => false
  | .perBlock => true

/-- A host command, by its command word; operand bits outside the listed fields are ignored (R55). A word
not in the table is rejected (R56). -/
def decodeCommand (c : Command) : Except DecodeError Instr :=
  match c.cmd.toNat with
  | 0x00 => .ok .decReset
  | 0x01 => .ok (.decRegRead (c.a.extractLsb' 0 8))
  | 0x02 => .ok (.brInit (orderOfBit (c.a.getLsbD 0)) c.b c.data)
  | 0x03 => .ok (.brReadU (c.a.extractLsb' 0 6))
  | 0x04 => .ok (.brReadS (c.a.extractLsb' 0 6))
  | 0x05 => .ok .brPos
  | 0x06 => .ok .cbDecode
  | 0x07 => .ok .hdrParse
  | 0x08 => .ok (.decStart (qmodeOfBit (c.a.getLsbD 0)) (c.b.extractLsb' 0 6) (c.c.extractLsb' 0 16))
  | 0x09 => .ok .decStep
  | 0x0A => .ok .decSkipMb
  | 0x0B => .ok .decSkipPadding
  | 0x10 => .ok .encReset
  | 0x11 => .ok (.encRegRead (c.a.extractLsb' 0 8))
  | 0x12 => .ok (.bwInit (orderOfBit (c.a.getLsbD 0)))
  | 0x13 => .ok (.bwWrite c.a (c.b.extractLsb' 0 6))
  | 0x14 => .ok .bwPos
  | 0x15 => .ok .bwFlush
  | 0x16 => .ok (.cbLookup (c.a.extractLsb' 0 6) (c.b.extractLsb' 0 10))
  | 0x17 => .ok (.encStart (c.c.extractLsb' 0 16) (c.b.extractLsb' 0 16))
  | 0x18 => .ok (.encPut (c.a.extractLsb' 0 16))
  | 0x19 => .ok .encFinish
  | _ => .error (.illegalCommand c.cmd)

/-- An encoded instruction: the bits of a stream element, or a host command. -/
inductive Encoding where
  | stream (b : Bits)
  | command (c : Command)
  deriving DecidableEq, Repr

/-- The code of a table row: its prefix and the sign bit last (R44). -/
def vlcCode (len digits : Nat) (neg : Bool) : Encoding :=
  .stream (natToBits len digits ++ [neg])

/-- A command with no DATA. -/
def plainCommand (cmd : BitVec 8) (a b c : Word32) : Encoding :=
  .command ⟨cmd, a, b, c, []⟩

/-- The encoder, written from the same tables (R42-R48, R55): unused operand bits are 0. -/
def encode : Instr → Encoding
  | .dcGlobal d => .stream (wordBits d)
  | .dcPerBlock q d => .stream (wordBits q ++ wordBits d)
  | .vlcR0L1 neg => vlcCode 2 0b11 neg
  | .vlcR1L1 neg => vlcCode 3 0b011 neg
  | .vlcR0L2 neg => vlcCode 4 0b0100 neg
  | .vlcR2L1 neg => vlcCode 4 0b0101 neg
  | .vlcR0L3 neg => vlcCode 5 0b00101 neg
  | .vlcR4L1 neg => vlcCode 5 0b00110 neg
  | .vlcR3L1 neg => vlcCode 5 0b00111 neg
  | .vlcR7L1 neg => vlcCode 6 0b000100 neg
  | .vlcR6L1 neg => vlcCode 6 0b000101 neg
  | .vlcR1L2 neg => vlcCode 6 0b000110 neg
  | .vlcR5L1 neg => vlcCode 6 0b000111 neg
  | .vlcR2L2 neg => vlcCode 7 0b0000100 neg
  | .vlcR9L1 neg => vlcCode 7 0b0000101 neg
  | .vlcR0L4 neg => vlcCode 7 0b0000110 neg
  | .vlcR8L1 neg => vlcCode 7 0b0000111 neg
  | .vlcR13L1 neg => vlcCode 8 0b00100000 neg
  | .vlcR0L6 neg => vlcCode 8 0b00100001 neg
  | .vlcR12L1 neg => vlcCode 8 0b00100010 neg
  | .vlcR11L1 neg => vlcCode 8 0b00100011 neg
  | .vlcR3L2 neg => vlcCode 8 0b00100100 neg
  | .vlcR1L3 neg => vlcCode 8 0b00100101 neg
  | .vlcR0L5 neg => vlcCode 8 0b00100110 neg
  | .vlcR10L1 neg => vlcCode 8 0b00100111 neg
  | .vlcR16L1 neg => vlcCode 10 0b0000001000 neg
  | .vlcR5L2 neg => vlcCode 10 0b0000001001 neg
  | .vlcR0L7 neg => vlcCode 10 0b0000001010 neg
  | .vlcR2L3 neg => vlcCode 10 0b0000001011 neg
  | .vlcR1L4 neg => vlcCode 10 0b0000001100 neg
  | .vlcR15L1 neg => vlcCode 10 0b0000001101 neg
  | .vlcR14L1 neg => vlcCode 10 0b0000001110 neg
  | .vlcR4L2 neg => vlcCode 10 0b0000001111 neg
  | .vlcR0L11 neg => vlcCode 12 0b000000010000 neg
  | .vlcR8L2 neg => vlcCode 12 0b000000010001 neg
  | .vlcR4L3 neg => vlcCode 12 0b000000010010 neg
  | .vlcR0L10 neg => vlcCode 12 0b000000010011 neg
  | .vlcR2L4 neg => vlcCode 12 0b000000010100 neg
  | .vlcR7L2 neg => vlcCode 12 0b000000010101 neg
  | .vlcR21L1 neg => vlcCode 12 0b000000010110 neg
  | .vlcR20L1 neg => vlcCode 12 0b000000010111 neg
  | .vlcR0L9 neg => vlcCode 12 0b000000011000 neg
  | .vlcR19L1 neg => vlcCode 12 0b000000011001 neg
  | .vlcR18L1 neg => vlcCode 12 0b000000011010 neg
  | .vlcR1L5 neg => vlcCode 12 0b000000011011 neg
  | .vlcR3L3 neg => vlcCode 12 0b000000011100 neg
  | .vlcR0L8 neg => vlcCode 12 0b000000011101 neg
  | .vlcR6L2 neg => vlcCode 12 0b000000011110 neg
  | .vlcR17L1 neg => vlcCode 12 0b000000011111 neg
  | .vlcR10L2 neg => vlcCode 13 0b0000000010000 neg
  | .vlcR9L2 neg => vlcCode 13 0b0000000010001 neg
  | .vlcR5L3 neg => vlcCode 13 0b0000000010010 neg
  | .vlcR3L4 neg => vlcCode 13 0b0000000010011 neg
  | .vlcR2L5 neg => vlcCode 13 0b0000000010100 neg
  | .vlcR1L7 neg => vlcCode 13 0b0000000010101 neg
  | .vlcR1L6 neg => vlcCode 13 0b0000000010110 neg
  | .vlcR0L15 neg => vlcCode 13 0b0000000010111 neg
  | .vlcR0L14 neg => vlcCode 13 0b0000000011000 neg
  | .vlcR0L13 neg => vlcCode 13 0b0000000011001 neg
  | .vlcR0L12 neg => vlcCode 13 0b0000000011010 neg
  | .vlcR26L1 neg => vlcCode 13 0b0000000011011 neg
  | .vlcR25L1 neg => vlcCode 13 0b0000000011100 neg
  | .vlcR24L1 neg => vlcCode 13 0b0000000011101 neg
  | .vlcR23L1 neg => vlcCode 13 0b0000000011110 neg
  | .vlcR22L1 neg => vlcCode 13 0b0000000011111 neg
  | .vlcR0L31 neg => vlcCode 14 0b00000000010000 neg
  | .vlcR0L30 neg => vlcCode 14 0b00000000010001 neg
  | .vlcR0L29 neg => vlcCode 14 0b00000000010010 neg
  | .vlcR0L28 neg => vlcCode 14 0b00000000010011 neg
  | .vlcR0L27 neg => vlcCode 14 0b00000000010100 neg
  | .vlcR0L26 neg => vlcCode 14 0b00000000010101 neg
  | .vlcR0L25 neg => vlcCode 14 0b00000000010110 neg
  | .vlcR0L24 neg => vlcCode 14 0b00000000010111 neg
  | .vlcR0L23 neg => vlcCode 14 0b00000000011000 neg
  | .vlcR0L22 neg => vlcCode 14 0b00000000011001 neg
  | .vlcR0L21 neg => vlcCode 14 0b00000000011010 neg
  | .vlcR0L20 neg => vlcCode 14 0b00000000011011 neg
  | .vlcR0L19 neg => vlcCode 14 0b00000000011100 neg
  | .vlcR0L18 neg => vlcCode 14 0b00000000011101 neg
  | .vlcR0L17 neg => vlcCode 14 0b00000000011110 neg
  | .vlcR0L16 neg => vlcCode 14 0b00000000011111 neg
  | .vlcR0L40 neg => vlcCode 15 0b000000000010000 neg
  | .vlcR0L39 neg => vlcCode 15 0b000000000010001 neg
  | .vlcR0L38 neg => vlcCode 15 0b000000000010010 neg
  | .vlcR0L37 neg => vlcCode 15 0b000000000010011 neg
  | .vlcR0L36 neg => vlcCode 15 0b000000000010100 neg
  | .vlcR0L35 neg => vlcCode 15 0b000000000010101 neg
  | .vlcR0L34 neg => vlcCode 15 0b000000000010110 neg
  | .vlcR0L33 neg => vlcCode 15 0b000000000010111 neg
  | .vlcR0L32 neg => vlcCode 15 0b000000000011000 neg
  | .vlcR1L14 neg => vlcCode 15 0b000000000011001 neg
  | .vlcR1L13 neg => vlcCode 15 0b000000000011010 neg
  | .vlcR1L12 neg => vlcCode 15 0b000000000011011 neg
  | .vlcR1L11 neg => vlcCode 15 0b000000000011100 neg
  | .vlcR1L10 neg => vlcCode 15 0b000000000011101 neg
  | .vlcR1L9 neg => vlcCode 15 0b000000000011110 neg
  | .vlcR1L8 neg => vlcCode 15 0b000000000011111 neg
  | .vlcR1L18 neg => vlcCode 16 0b0000000000010000 neg
  | .vlcR1L17 neg => vlcCode 16 0b0000000000010001 neg
  | .vlcR1L16 neg => vlcCode 16 0b0000000000010010 neg
  | .vlcR1L15 neg => vlcCode 16 0b0000000000010011 neg
  | .vlcR6L3 neg => vlcCode 16 0b0000000000010100 neg
  | .vlcR16L2 neg => vlcCode 16 0b0000000000010101 neg
  | .vlcR15L2 neg => vlcCode 16 0b0000000000010110 neg
  | .vlcR14L2 neg => vlcCode 16 0b0000000000010111 neg
  | .vlcR13L2 neg => vlcCode 16 0b0000000000011000 neg
  | .vlcR12L2 neg => vlcCode 16 0b0000000000011001 neg
  | .vlcR11L2 neg => vlcCode 16 0b0000000000011010 neg
  | .vlcR31L1 neg => vlcCode 16 0b0000000000011011 neg
  | .vlcR30L1 neg => vlcCode 16 0b0000000000011100 neg
  | .vlcR29L1 neg => vlcCode 16 0b0000000000011101 neg
  | .vlcR28L1 neg => vlcCode 16 0b0000000000011110 neg
  | .vlcR27L1 neg => vlcCode 16 0b0000000000011111 neg
  | .eob => .stream Config.eobCode
  | .esc r l => .stream (Config.escPrefix ++ (wordBits r ++ wordBits l))
  | .trailer => .stream Config.trailer
  | .decReset => plainCommand 0x00 0 0 0
  | .decRegRead n => plainCommand 0x01 (n.setWidth 32) 0 0
  | .brInit order offset data => .command ⟨0x02, flagWord (bitOfOrder order), offset, 0, data⟩
  | .brReadU n => plainCommand 0x03 (n.setWidth 32) 0 0
  | .brReadS n => plainCommand 0x04 (n.setWidth 32) 0 0
  | .brPos => plainCommand 0x05 0 0 0
  | .cbDecode => plainCommand 0x06 0 0 0
  | .hdrParse => plainCommand 0x07 0 0 0
  | .decStart qmode qscale mbtotal => plainCommand 0x08 (flagWord (bitOfQMode qmode)) (qscale.setWidth 32) (mbtotal.setWidth 32)
  | .decStep => plainCommand 0x09 0 0 0
  | .decSkipMb => plainCommand 0x0A 0 0 0
  | .decSkipPadding => plainCommand 0x0B 0 0 0
  | .encReset => plainCommand 0x10 0 0 0
  | .encRegRead n => plainCommand 0x11 (n.setWidth 32) 0 0
  | .bwInit order => plainCommand 0x12 (flagWord (bitOfOrder order)) 0 0
  | .bwWrite value n => plainCommand 0x13 value (n.setWidth 32) 0
  | .bwPos => plainCommand 0x14 0 0 0
  | .bwFlush => plainCommand 0x15 0 0 0
  | .cbLookup run level => plainCommand 0x16 (run.setWidth 32) (level.setWidth 32) 0
  | .encStart mbtotal version => plainCommand 0x17 0 (version.setWidth 32) (mbtotal.setWidth 32)
  | .encPut w => plainCommand 0x18 (w.setWidth 32) 0 0
  | .encFinish => plainCommand 0x19 0 0 0

/-- Where an instruction stands (R40, R41, R54). -/
def Instr.position : Instr → Position
  | .dcGlobal _ => .dcGlobal
  | .dcPerBlock _ _ => .dcPerBlock
  | .eob => .ac
  | .esc _ _ => .ac
  | .trailer => .trailer
  | .vlcR0L1 _ => .ac
  | .vlcR1L1 _ => .ac
  | .vlcR0L2 _ => .ac
  | .vlcR2L1 _ => .ac
  | .vlcR0L3 _ => .ac
  | .vlcR4L1 _ => .ac
  | .vlcR3L1 _ => .ac
  | .vlcR7L1 _ => .ac
  | .vlcR6L1 _ => .ac
  | .vlcR1L2 _ => .ac
  | .vlcR5L1 _ => .ac
  | .vlcR2L2 _ => .ac
  | .vlcR9L1 _ => .ac
  | .vlcR0L4 _ => .ac
  | .vlcR8L1 _ => .ac
  | .vlcR13L1 _ => .ac
  | .vlcR0L6 _ => .ac
  | .vlcR12L1 _ => .ac
  | .vlcR11L1 _ => .ac
  | .vlcR3L2 _ => .ac
  | .vlcR1L3 _ => .ac
  | .vlcR0L5 _ => .ac
  | .vlcR10L1 _ => .ac
  | .vlcR16L1 _ => .ac
  | .vlcR5L2 _ => .ac
  | .vlcR0L7 _ => .ac
  | .vlcR2L3 _ => .ac
  | .vlcR1L4 _ => .ac
  | .vlcR15L1 _ => .ac
  | .vlcR14L1 _ => .ac
  | .vlcR4L2 _ => .ac
  | .vlcR0L11 _ => .ac
  | .vlcR8L2 _ => .ac
  | .vlcR4L3 _ => .ac
  | .vlcR0L10 _ => .ac
  | .vlcR2L4 _ => .ac
  | .vlcR7L2 _ => .ac
  | .vlcR21L1 _ => .ac
  | .vlcR20L1 _ => .ac
  | .vlcR0L9 _ => .ac
  | .vlcR19L1 _ => .ac
  | .vlcR18L1 _ => .ac
  | .vlcR1L5 _ => .ac
  | .vlcR3L3 _ => .ac
  | .vlcR0L8 _ => .ac
  | .vlcR6L2 _ => .ac
  | .vlcR17L1 _ => .ac
  | .vlcR10L2 _ => .ac
  | .vlcR9L2 _ => .ac
  | .vlcR5L3 _ => .ac
  | .vlcR3L4 _ => .ac
  | .vlcR2L5 _ => .ac
  | .vlcR1L7 _ => .ac
  | .vlcR1L6 _ => .ac
  | .vlcR0L15 _ => .ac
  | .vlcR0L14 _ => .ac
  | .vlcR0L13 _ => .ac
  | .vlcR0L12 _ => .ac
  | .vlcR26L1 _ => .ac
  | .vlcR25L1 _ => .ac
  | .vlcR24L1 _ => .ac
  | .vlcR23L1 _ => .ac
  | .vlcR22L1 _ => .ac
  | .vlcR0L31 _ => .ac
  | .vlcR0L30 _ => .ac
  | .vlcR0L29 _ => .ac
  | .vlcR0L28 _ => .ac
  | .vlcR0L27 _ => .ac
  | .vlcR0L26 _ => .ac
  | .vlcR0L25 _ => .ac
  | .vlcR0L24 _ => .ac
  | .vlcR0L23 _ => .ac
  | .vlcR0L22 _ => .ac
  | .vlcR0L21 _ => .ac
  | .vlcR0L20 _ => .ac
  | .vlcR0L19 _ => .ac
  | .vlcR0L18 _ => .ac
  | .vlcR0L17 _ => .ac
  | .vlcR0L16 _ => .ac
  | .vlcR0L40 _ => .ac
  | .vlcR0L39 _ => .ac
  | .vlcR0L38 _ => .ac
  | .vlcR0L37 _ => .ac
  | .vlcR0L36 _ => .ac
  | .vlcR0L35 _ => .ac
  | .vlcR0L34 _ => .ac
  | .vlcR0L33 _ => .ac
  | .vlcR0L32 _ => .ac
  | .vlcR1L14 _ => .ac
  | .vlcR1L13 _ => .ac
  | .vlcR1L12 _ => .ac
  | .vlcR1L11 _ => .ac
  | .vlcR1L10 _ => .ac
  | .vlcR1L9 _ => .ac
  | .vlcR1L8 _ => .ac
  | .vlcR1L18 _ => .ac
  | .vlcR1L17 _ => .ac
  | .vlcR1L16 _ => .ac
  | .vlcR1L15 _ => .ac
  | .vlcR6L3 _ => .ac
  | .vlcR16L2 _ => .ac
  | .vlcR15L2 _ => .ac
  | .vlcR14L2 _ => .ac
  | .vlcR13L2 _ => .ac
  | .vlcR12L2 _ => .ac
  | .vlcR11L2 _ => .ac
  | .vlcR31L1 _ => .ac
  | .vlcR30L1 _ => .ac
  | .vlcR29L1 _ => .ac
  | .vlcR28L1 _ => .ac
  | .vlcR27L1 _ => .ac
  | .decReset => .command
  | .decRegRead _ => .command
  | .brInit _ _ _ => .command
  | .brReadU _ => .command
  | .brReadS _ => .command
  | .brPos => .command
  | .cbDecode => .command
  | .hdrParse => .command
  | .decStart _ _ _ => .command
  | .decStep => .command
  | .decSkipMb => .command
  | .decSkipPadding => .command
  | .encReset => .command
  | .encRegRead _ => .command
  | .bwInit _ => .command
  | .bwWrite _ _ => .command
  | .bwPos => .command
  | .bwFlush => .command
  | .cbLookup _ _ => .command
  | .encStart _ _ => .command
  | .encPut _ => .command
  | .encFinish => .command

/-- A stream element at a position; no stream element stands on the command port. -/
def decodeStream (pos : Position) (b : Bits) : Except DecodeError (Instr × Bits) :=
  match pos with
  | .dcGlobal => decodeDcGlobal b
  | .dcPerBlock => decodeDcPerBlock b
  | .ac => decodeAc b
  | .trailer => decodeTrailer b
  | .command => .error .noCode

/-- The bits of a byte sequence in LE16 words, each word's bit 15 first; an odd last byte belongs to no
word (R25, R26). -/
def bitsOfBytesLE : List Byte → Bits
  | lo :: hi :: rest => wordBits hi ++ (wordBits lo ++ bitsOfBytesLE rest)
  | [_] => []
  | [] => []

/-- A table row's number as two 16-bit stream words. A row of at most one byte stands in the first eight
stream bits, the high byte of the first word; a longer row's bits 15..0 are the first word and bits 31..16
the second (log 11). -/
def tableWords (nbits w : Nat) : Code × Code :=
  if nbits ≤ 8 then (BitVec.ofNat 16 (w % 256 * 256), 0)
  else (BitVec.ofNat 16 w, BitVec.ofNat 16 (w / 65536))

/-- The two words as LE16 stores them, the first at the lowest address (R25). -/
def tableBytes (nbits w : Nat) : List Byte :=
  let (w0, w1) := tableWords nbits w
  [w0.extractLsb' 0 8, w0.extractLsb' 8 8, w1.extractLsb' 0 8, w1.extractLsb' 8 8]

/-- A table row's number as a host command with zero operands. -/
def tableCommand (w : Nat) : Command :=
  ⟨BitVec.ofNat 8 w, 0, 0, 0, []⟩

/-- The instruction that the decoder reads from an instruction whose bits are `w`. An 8-bit number is taken
as a command word where R55 has one; any other number as stream bits at an AC position. The command words
and the stream codes are two code spaces that overlap as numbers: assumption log 11. -/
def decodeTableWord (nbits w : Nat) : Option Instr :=
  let fromStream : Option Instr :=
    match decodeStream .ac (bitsOfBytesLE (tableBytes nbits w)) with
    | .ok (i, _) => some i
    | .error _ => none
  if nbits ≤ 8 then
    match decodeCommand (tableCommand w) with
    | .ok i => some i
    | .error _ => fromStream
  else fromStream

end Sys2Proof
end

