-- ==== Sys2Proof/Machine/State.lean ====
section
/-! DEFINITION. The state of the block: the DEC unit, the ENC unit (R9, R11, R14), the command and response
ports (R54), and the reset state (R101, R116). Plain data only. -/

namespace Sys2Proof.Machine

/-- A byte memory: (address, byte) pairs in one canonical form, addresses strictly rising and no entry equal
to what an unlisted address reads as (`Mem.fill`). BUF and OBUF are two of these (R22). -/
structure Mem where
  cells : List Host.Cell
  deriving DecidableEq, Repr

/-- What an unlisted address reads as: 0. DESIGN CHOICE, unsafe in form; no command of a run from reset reads
a byte that was not written (R24, R116, U7): assumption log 7. -/
def Mem.fill : Byte := 0

/-- The memory with nothing listed. -/
def Mem.empty : Mem := ⟨[]⟩

/-- Addresses strictly rising from `lo` on, and no listed byte equal to the fill. -/
def cellsWf (lo : Nat) : List Host.Cell → Bool
  | [] => true
  | (a, b) :: rest => lo ≤ a && b != Mem.fill && cellsWf (a + 1) rest

/-- The canonical form holds. -/
def Mem.wf (m : Mem) : Bool :=
  cellsWf 0 m.cells

/-- The error codes that an `ERR` register can name (R103). `FormatNotRecognized` is "never in `ERR`". -/
inductive ErrCode where
  | none
  | endOfStream
  | readCorruption
  | incompatible
  /-- Code 5, "never (reserved)" (R103, R90). -/
  | tooMuchEnergy
  | programmingFault
  deriving DecidableEq, Repr

/-- The status of a response (R103; R54: "with 8 = `DONE`"). -/
inductive Status where
  | ok
  | formatNotRecognized
  | endOfStream
  | readCorruption
  | incompatible
  | tooMuchEnergy
  | programmingFault
  | done
  deriving DecidableEq, Repr

/-- `DEC.PHASE` (R12): the values 5 and 6 are "reserved, never held". -/
inductive DecPhase where
  | idle
  | blockStart
  | readingAc
  | blockDone
  | frameDone
  | fault
  deriving DecidableEq, Repr

/-- `ENC.PHASE` (R15): the values 3 and 6 are "reserved and never held". -/
inductive EncPhase where
  | idle
  | blockStart
  | inBlock
  | frameDone
  | finished
  | fault
  deriving DecidableEq, Repr

/-- The DEC unit: the registers of R11 (`NBITS` is derived, see `Dec.nbits`), its memory `BUF` (R22), and the
list of words emitted since `DEC_START`, "the decode's output" (R20). -/
structure Dec where
  /-- `CFG.ORDER`. -/
  order : Order
  /-- `CFG.QMODE`. -/
  qmode : QMode
  buflen : Word32
  bitpos : Word32
  phase : DecPhase
  qscale : BitVec 6
  mbtotal : BitVec 16
  mb : BitVec 16
  blk : BitVec 3
  codecount : Word32
  esczero : Word32
  /-- `STATUS.PADWARN`. -/
  padwarn : Bool
  /-- `STATUS.PADDONE`. -/
  paddone : Bool
  err : ErrCode
  /-- `LASTCODE[15:0]`. -/
  lastWord : Code
  /-- `LASTCODE.VALID`. -/
  lastValid : Bool
  hdrHint : Code
  hdrQscale : Code
  hdrVersion : Code
  hdrValid : Bool
  buf : Mem
  /-- The words emitted since `DEC_START`, in order (R20): the observable output, kept as a list. -/
  out : List Code
  deriving DecidableEq, Repr

/-- The ENC unit: the registers of R14, the writer stream (R16), its memory `OBUF` (R22), and the list of code
words taken since `ENC_START` (R17). -/
structure Enc where
  /-- `CFG.ORDER`. -/
  order : Order
  phase : EncPhase
  mbtotal : BitVec 16
  mb : BitVec 16
  blk : BitVec 3
  qscale : BitVec 6
  qvalid : Bool
  codecount : Word32
  wbits : Word32
  err : ErrCode
  version : Code
  outlen : Word32
  wstream : Bits
  obuf : Mem
  /-- The code words taken by `ENC_PUT` since `ENC_START`, in order (R17). -/
  taken : List Code
  deriving DecidableEq, Repr

/-- A response: a status, up to two 32-bit result fields, and the contents of `OBUF` where the command returns
them (R54). -/
structure Response where
  status : Status
  x : Option Word32
  y : Option Word32
  obuf : Option (List Byte)
  deriving DecidableEq, Repr

/-- The command port and the response port (R54): the commands in the order the host issues them (R36), the
first being the one the block performs next, and the response of the last command that completed. -/
structure Port where
  pending : List Command
  resp : Option Response
  deriving DecidableEq, Repr

/-- The state of the block. -/
structure State where
  dec : Dec
  enc : Enc
  port : Port
  /-- The MODEL's own field: the counter at which the next free value is read (assumption log 9). -/
  free : Nat
  deriving DecidableEq, Repr

/-- Why the machine stops with a fault. The block's own errors are no such stop: they are states (R104). -/
inductive Fault where
  /-- `DEC_SKIP_MB` used up the loop bound of the model's recursion. Raised by `execDecSkipMb` only, and never
  in fact: every run of the loop ends (R82). Safe. Assumption log 14. -/
  | skipBound
  deriving DecidableEq, Repr

/-- Why the machine has no move. -/
inductive Refusal where
  /-- An instruction without a meaning. Raised by no arm of `exec`. Safe. -/
  | notModelled (mnemonic : String)
  /-- The host has issued no command: "There is no step of a unit without a command" (R114). Raised by `step`
  on an empty command port. Safe. Assumption log 2. -/
  | noCommand
  /-- A stream element is run where the decode engine reads another kind of element at the cursor (a DC field
  where an AC code is due, R41). Raised by the meanings of stream elements; no step of a run gets there,
  because the engine fetches by position. Safe. Assumption log 10. -/
  | notInPosition
  deriving DecidableEq, Repr

/-- DEC after reset: every register at the reset value of R11, `BUF` with no addressable byte (R23, R116). -/
def Dec.reset : Dec where
  order := .le16
  qmode := .global
  buflen := 0
  bitpos := 0
  phase := .idle
  qscale := 0
  mbtotal := 0
  mb := 0
  blk := 0
  codecount := 0
  esczero := 0
  padwarn := false
  paddone := false
  err := .none
  lastWord := 0
  lastValid := false
  hdrHint := 0
  hdrQscale := 0
  hdrVersion := 0
  hdrValid := false
  buf := Mem.empty
  out := []

/-- ENC after reset: every register at the reset value of R14, `WSTREAM` empty, `VERSION` 2 (R101, R116). -/
def Enc.reset : Enc where
  order := .le16
  phase := .idle
  mbtotal := 0
  mb := 0
  blk := 0
  qscale := 0
  qvalid := false
  codecount := 0
  wbits := 0
  err := .none
  version := 2
  outlen := 0
  wstream := []
  obuf := Mem.empty
  taken := []

/-- The block at power-on (R116): both units reset, no command issued, no response given. -/
def State.reset : State where
  dec := Dec.reset
  enc := Enc.reset
  port := ⟨[], none⟩
  free := 0

end Sys2Proof.Machine
end

