-- ==== Sys2Proof/Machine/Ops.lean ====
section
/-! DEFINITION. The named operations that the meanings share: bytes of BUF and OBUF, the bit reader's and the
bit writer's primitives (R57, R59), `Emit` (R20), `respond` (R7), `raise` (R104) and the fault gate (R105). -/

namespace Sys2Proof.Machine

/-! ## Byte memory -/

/-- The byte listed first at address `a`, or the fill. -/
def readCells (a : Nat) : List Host.Cell → Byte
  | [] => Mem.fill
  | (k, v) :: rest => if k = a then v else readCells a rest

/-- One byte of memory. -/
def Mem.read (m : Mem) (a : Nat) : Byte :=
  readCells a m.cells

/-- Put byte `b` at address `a` in a list of cells, keeping the canonical form. -/
def writeCells (a : Nat) (b : Byte) : List Host.Cell → List Host.Cell
  | [] => if b = Mem.fill then [] else [(a, b)]
  | (k, v) :: rest =>
    if a < k then (if b = Mem.fill then (k, v) :: rest else (a, b) :: (k, v) :: rest)
    else if a = k then (if b = Mem.fill then rest else (a, b) :: rest)
    else (k, v) :: writeCells a b rest

/-- Write one byte. -/
def Mem.write (m : Mem) (a : Nat) (b : Byte) : Mem :=
  ⟨writeCells a b m.cells⟩

/-- Write a byte sequence from address `a` up. -/
def Mem.writeBytes (m : Mem) (a : Nat) : List Byte → Mem
  | [] => m
  | b :: bs => (m.write a b).writeBytes (a + 1) bs

/-- The cells of a byte sequence that starts at address `a`. -/
def cellsOfBytes (a : Nat) : List Byte → List Host.Cell
  | [] => []
  | b :: bs => if b = Mem.fill then cellsOfBytes (a + 1) bs else (a, b) :: cellsOfBytes (a + 1) bs

/-- The memory that holds exactly a byte sequence from address 0 (R23). -/
def Mem.ofBytes (bs : List Byte) : Mem :=
  ⟨cellsOfBytes 0 bs⟩

/-- The bytes at addresses 0 .. n-1. -/
def Mem.bytes (m : Mem) (n : Nat) : List Byte :=
  (List.range n).map m.read

/-! ## The bit reader -/

/-- `NBITS = 16 * (BUFLEN div 2)`, the derived 32-bit register (R11, R26; assumption log 13). -/
def Dec.nbits (d : Dec) : Word32 :=
  16 * (d.buflen / 2)

/-- The 16-bit stream word of two bytes, the one at the lower address first (R25). -/
def orderWord (o : Order) (b0 b1 : Byte) : Code :=
  match o with
  | .le16 => b1 ++ b0
  | .be16 => b0 ++ b1

/-- `StreamBit(p)` (R25). -/
def Dec.streamBit (d : Dec) (p : Nat) : Bool :=
  (orderWord d.order (d.buf.read (2 * (p / 16))) (d.buf.read (2 * (p / 16) + 1))).getLsbD (15 - p % 16)

/-- `StreamBit(p) ∥ … ∥ StreamBit(p+n-1)` (R28). -/
def Dec.streamBits (d : Dec) (p n : Nat) : Bits :=
  (List.range n).map (fun i => d.streamBit (p + i))

/-- The bits from the cursor to the end of the readable stream. -/
def Dec.remaining (d : Dec) : Bits :=
  d.streamBits d.bitpos.toNat (d.nbits.toNat - d.bitpos.toNat)

/-- Move the cursor by `n` bits (R57, R58). -/
def Dec.advance (d : Dec) (n : Nat) : Dec :=
  { d with bitpos := d.bitpos + BitVec.ofNat 32 n }

/-- Fewer than `n` bits remain at the cursor (R57). -/
def Dec.short (d : Dec) (n : Nat) : Bool :=
  decide (d.nbits.toNat < d.bitpos.toNat + n)

/-- `ReadBits(n)` (R57): atomic; the value and the unit with its cursor moved, or `EndOfStream`. -/
def Dec.readBits (d : Dec) (n : Nat) : Except ErrCode (Nat × Dec) :=
  if d.short n then .error .endOfStream
  else .ok (bitsToNat (d.streamBits d.bitpos.toNat n), d.advance n)

/-- A little-endian 16-bit field of the header at byte offset `a` (R27, R94). -/
def Dec.u16 (d : Dec) (a : Nat) : Code :=
  d.buf.read (a + 1) ++ d.buf.read a

/-- `Emit(w)` (R20): `LASTCODE`, `CODECOUNT` modulo 2^32, and the output list. The word's place in the
response is the command's. -/
def Dec.emit (d : Dec) (w : Code) : Dec :=
  { d with lastWord := w, lastValid := true, codecount := d.codecount + 1, out := d.out ++ [w] }

/-! ## The bit writer -/

/-- `WriteBits(b)` (R59). -/
def Enc.writeBits (e : Enc) (b : Bits) : Except ErrCode Enc :=
  if Config.wcap < e.wbits.toNat + b.length then .error .programmingFault
  else .ok { e with wstream := e.wstream ++ b, wbits := e.wbits + BitVec.ofNat 32 b.length }

/-- `WFILL = WBITS mod 16` (R16), a view (assumption log 16). -/
def Enc.wfill (e : Enc) : Nat :=
  e.wbits.toNat % 16

/-- `WACC[15:0]`, the unfinished last word (R16), a view that no command shows and no meaning reads. R16 gives its
width only: that the `WFILL` bits stand from bit 15 down, with zeros below them, is the model's own. DESIGN CHOICE,
unsafe in form: assumption log 16. -/
def Enc.wacc (e : Enc) : Code :=
  BitVec.ofNat 16 (bitsToNat (e.wstream.drop (e.wbits.toNat / 16 * 16)) * 2 ^ (16 - e.wfill))

/-- The number of zero bits that fill the last word: (16 - WBITS mod 16) mod 16 (R67, R91). -/
def Enc.padding (e : Enc) : Nat :=
  (16 - e.wbits.toNat % 16) % 16

/-- Word `j` of a bit string, its first bit as bit 15 (R29). -/
def streamWord (b : Bits) (j : Nat) : Code :=
  BitVec.ofNat 16 (bitsToNat ((b.drop (16 * j)).take 16))

/-- The two bytes of a word, the one for the lower address first (R29). -/
def orderBytes (o : Order) (w : Code) : List Byte :=
  match o with
  | .le16 => [w.extractLsb' 0 8, w.extractLsb' 8 8]
  | .be16 => [w.extractLsb' 8 8, w.extractLsb' 0 8]

/-- The first `n` words of a bit string as bytes (R29). -/
def streamBytes (o : Order) (b : Bits) (n : Nat) : List Byte :=
  (List.range n).flatMap (fun j => orderBytes o (streamWord b j))

/-! ## Responses, raising, the fault gate -/

/-- The status that reports an error (R103). -/
def ErrCode.status : ErrCode → Status
  | .none => .ok
  | .endOfStream => .endOfStream
  | .readCorruption => .readCorruption
  | .incompatible => .incompatible
  | .tooMuchEnergy => .tooMuchEnergy
  | .programmingFault => .programmingFault

/-- A response that is a status alone. -/
def respStatus (st : Status) : Response :=
  ⟨st, none, none, none⟩

/-- `respond(OK, X = x)`. -/
def respX (x : Word32) : Response :=
  ⟨.ok, some x, none, none⟩

/-- `respond(OK, X = x, Y = y)`. -/
def respXY (x y : Word32) : Response :=
  ⟨.ok, some x, some y, none⟩

/-- `respond` (R7): the command that the port holds first is complete, and its response is on the port. -/
def State.respond (s : State) (r : Response) : State :=
  { s with port := ⟨s.port.pending.tail, some r⟩ }

/-- The state with another DEC unit. -/
def State.withDec (s : State) (d : Dec) : State :=
  { s with dec := d }

/-- The state with another ENC unit. -/
def State.withEnc (s : State) (e : Enc) : State :=
  { s with enc := e }

/-- The state with the counter of free values moved on. -/
def State.nextFree (s : State) : State :=
  { s with free := s.free + 1 }

/-- `raise E` in DEC (R104): `s` is the state at the start of the action, so that everything the action did is
rolled back; `ERR <- E`, `PHASE <- FAULT`, and the response is `(E)`. This is the block's trap entry: no
handler runs and no vector exists (R110). -/
def State.raiseDec (s : State) (e : ErrCode) : State :=
  (s.withDec { s.dec with err := e, phase := .fault }).respond (respStatus e.status)

/-- `raise E` in ENC (R104, R110). -/
def State.raiseEnc (s : State) (e : ErrCode) : State :=
  (s.withEnc { s.enc with err := e, phase := .fault }).respond (respStatus e.status)

/-- The end of a DEC command: its response and its unit, or the raise. There is no return from a fault (R111):
the commands that leave `FAULT` are those that begin a new attempt. -/
def State.finishDec (s : State) (r : Except ErrCode (Response × Dec)) : State :=
  match r with
  | .ok (resp, d) => (s.withDec d).respond resp
  | .error e => s.raiseDec e

/-- The end of an ENC command. -/
def State.finishEnc (s : State) (r : Except ErrCode (Response × Enc)) : State :=
  match r with
  | .ok (resp, e) => (s.withEnc e).respond resp
  | .error e => s.raiseEnc e

/-- The answer of a unit in `FAULT` to a command that it does not accept: `(ERR)`, and nothing changes (R105). -/
def State.gatedDec (s : State) : State :=
  s.respond (respStatus s.dec.err.status)

/-- The same for ENC (R105). -/
def State.gatedEnc (s : State) : State :=
  s.respond (respStatus s.enc.err.status)

/-- A DEC command behind the fault gate (R105). -/
def State.runDec (s : State) (act : Dec → Except ErrCode (Response × Dec)) : Host.Outcome State Fault Refusal :=
  if s.dec.phase = .fault then .next s.gatedDec else .next (s.finishDec (act s.dec))

/-- An ENC command behind the fault gate (R105). -/
def State.runEnc (s : State) (act : Enc → Except ErrCode (Response × Enc)) : Host.Outcome State Fault Refusal :=
  if s.enc.phase = .fault then .next s.gatedEnc else .next (s.finishEnc (act s.enc))

/-- A command word that R55 does not list: the unit selected by `CMD[4]` raises `ProgrammingFault(illegal
command)` behind its fault gate (R56, R105). -/
def State.illegalCommand (s : State) (cmd : BitVec 8) : Host.Outcome State Fault Refusal :=
  if cmd.getLsbD 4 then s.runEnc (fun _ => .error .programmingFault)
  else s.runDec (fun _ => .error .programmingFault)

end Sys2Proof.Machine
end

