-- ==== Sys2Proof/Machine/Operands.lean ====
section
/-! DEFINITION. Operand forms: the access width of the raw reader and writer (R61, R65), the code words that
the stream elements stand for (R42-R45), the bits of a written value, and register numbers. -/

namespace Sys2Proof.Machine

/-- `n < 1 or n > 32` is a bad width (R61, R62, R65). -/
def badWidth (n : BitVec 6) : Bool :=
  n.toNat < Config.readMin || Config.readMax < n.toNat

/-- The low `n` bits of a value, `A[n-1]` first (R65). -/
def valueBits (value : Word32) (n : BitVec 6) : Bits :=
  natToBits n.toNat value.toNat

/-- `pack(run, +level)` or `pack(run, -level)` (R44, R71). -/
def acWord (run level : Nat) (neg : Bool) : Code :=
  pack (BitVec.ofNat 6 run) (if neg then -(BitVec.ofNat 10 level) else BitVec.ofNat 10 level)

/-- The magnitude of a signed 10-bit level (R73). -/
def levelMagnitude (level : BitVec 10) : Nat :=
  level.toInt.natAbs

/-- `w = EOD_WORD` (R4, R21). -/
def isEod (w : Code) : Bool :=
  w == Config.eodWord

end Sys2Proof.Machine
end

