-- ==== Sys2Proof/Machine/Flags.lean ====
section
/-! DEFINITION. The numbers of the phases and codes, the status bits, and every register as `REG_READ` shows
it (R11, R12, R14, R15, R18, R103). A reserved bit reads 0. -/

namespace Sys2Proof.Machine

/-- The number of an error code in an `ERR` register (R103). -/
def ErrCode.code : ErrCode → BitVec 4
  | .none => 0
  | .endOfStream => 2
  | .readCorruption => 3
  | .incompatible => 4
  | .tooMuchEnergy => 5
  | .programmingFault => 6

/-- The number of a response status (R54, R103). -/
def Status.code : Status → BitVec 4
  | .ok => 0
  | .formatNotRecognized => 1
  | .endOfStream => 2
  | .readCorruption => 3
  | .incompatible => 4
  | .tooMuchEnergy => 5
  | .programmingFault => 6
  | .done => 8

/-- The value of `DEC.PHASE` (R12). -/
def DecPhase.code : DecPhase → BitVec 3
  | .idle => 0
  | .blockStart => 1
  | .readingAc => 2
  | .blockDone => 3
  | .frameDone => 4
  | .fault => 7

/-- The value of `ENC.PHASE` (R15). -/
def EncPhase.code : EncPhase → BitVec 3
  | .idle => 0
  | .blockStart => 1
  | .inBlock => 2
  | .frameDone => 4
  | .finished => 5
  | .fault => 7

/-- `ORDER` as a bit (R11). -/
def orderBit : Order → Nat
  | .le16 => 0
  | .be16 => 1

/-- `QMODE` as a bit (R11). -/
def qmodeBit : QMode → Nat
  | .global => 0
  | .perBlock => 1

/-- `DEC.CFG`: [0] `ORDER`, [1] `QMODE` (R11). -/
def Dec.cfg (d : Dec) : Word32 :=
  BitVec.ofNat 32 (orderBit d.order + 2 * qmodeBit d.qmode)

/-- `DEC.STATUS`: [0] `PADWARN`, [1] `PADDONE` (R11). -/
def Dec.status (d : Dec) : Word32 :=
  BitVec.ofNat 32 (d.padwarn.toNat + 2 * d.paddone.toNat)

/-- `DEC.LASTCODE`: [15:0] the word, [16] `VALID` (R11). -/
def Dec.lastcode (d : Dec) : Word32 :=
  BitVec.ofNat 32 (d.lastWord.toNat + 65536 * d.lastValid.toNat)

/-- The trailer check (R83): `PADWARN` when the value is not the trailer's, and `PADDONE`. -/
def Dec.setPadding (d : Dec) (v : Nat) : Dec :=
  { d with padwarn := v != bitsToNat Config.trailer, paddone := true }

/-- An escape with level 0 is logged in `ESCZERO`, modulo 2^32 (R79, R108). -/
def Dec.logEscZero (d : Dec) (isEsc : Bool) (w : Code) : Dec :=
  if isEsc && s10 w == 0 then { d with esczero := d.esczero + 1 } else d

/-- The header latch after a valid header (R96). -/
def Dec.latchHeader (d : Dec) : Dec :=
  { d with hdrHint := d.u16 0, hdrQscale := d.u16 4, hdrVersion := d.u16 6, hdrValid := true }

/-- The header latch after an invalid header (R96). -/
def Dec.clearHeader (d : Dec) : Dec :=
  { d with hdrHint := 0, hdrQscale := 0, hdrVersion := 0, hdrValid := false }

/-- The DEC register with number `n`, zero-extended; none where R11 lists no such number. -/
def Dec.register (d : Dec) (n : BitVec 8) : Option Word32 :=
  match n.toNat with
  | 0x00 => some d.cfg
  | 0x01 => some d.buflen
  | 0x02 => some d.bitpos
  | 0x03 => some d.nbits
  | 0x04 => some (d.phase.code.setWidth 32)
  | 0x05 => some (d.qscale.setWidth 32)
  | 0x06 => some (d.mbtotal.setWidth 32)
  | 0x07 => some (d.mb.setWidth 32)
  | 0x08 => some (d.blk.setWidth 32)
  | 0x09 => some d.codecount
  | 0x0A => some d.esczero
  | 0x0B => some d.status
  | 0x0C => some (d.err.code.setWidth 32)
  | 0x0D => some d.lastcode
  | 0x0E => some (d.hdrHint.setWidth 32)
  | 0x0F => some (d.hdrQscale.setWidth 32)
  | 0x10 => some (d.hdrVersion.setWidth 32)
  | 0x11 => some (flagWord d.hdrValid)
  | _ => none

/-- The ENC register with number `n`, zero-extended; none where R14 lists no such number. -/
def Enc.register (e : Enc) (n : BitVec 8) : Option Word32 :=
  match n.toNat with
  | 0x00 => some (BitVec.ofNat 32 (orderBit e.order))
  | 0x01 => some (e.phase.code.setWidth 32)
  | 0x02 => some (e.mbtotal.setWidth 32)
  | 0x03 => some (e.mb.setWidth 32)
  | 0x04 => some (e.blk.setWidth 32)
  | 0x05 => some (e.qscale.setWidth 32)
  | 0x06 => some (flagWord e.qvalid)
  | 0x07 => some e.codecount
  | 0x08 => some e.wbits
  | 0x09 => some (e.err.code.setWidth 32)
  | 0x0A => some (e.version.setWidth 32)
  | 0x0B => some e.outlen
  | _ => none

/-- The registers 0x0E, 0x0F and 0x10 hold header fields (R102). -/
def isHeaderField (n : BitVec 8) : Bool :=
  n.toNat == 0x0E || n.toNat == 0x0F || n.toNat == 0x10

end Sys2Proof.Machine
end

