-- ==== Sys2Proof/Machine/Control.lean ====
section
/-! DEFINITION. The control commands: reset and register read (R101, R102). -/

namespace Sys2Proof.Machine

/-- `DEC_RESET` (R101): accepted in every phase; every register of DEC at its reset value. -/
def execDecReset (s : State) : Host.Outcome State Fault Refusal :=
  .next ((s.withDec Dec.reset).respond (respStatus .ok))

/-- `ENC_RESET` (R101). -/
def execEncReset (s : State) : Host.Outcome State Fault Refusal :=
  .next ((s.withEnc Enc.reset).respond (respStatus .ok))

/-- A register read in phase `FAULT`: accepted, and "it does not raise" (R102, R111). The value for a number
that the unit does not have is stated nowhere: a free value. DESIGN CHOICE, safe: assumption log 9. -/
def State.regReadInFault (s : State) (r : Option Word32) : Host.Outcome State Fault Refusal :=
  match r with
  | some v => .next (s.respond (respX v))
  | none => .next (s.nextFree.respond (respX (Config.freeValue s.free)))

/-- The checks of `DEC_REG_READ`, in R102's order: unknown number, then a header field with no valid header. -/
def Dec.regRead (d : Dec) (n : BitVec 8) : Except ErrCode (Response × Dec) :=
  match d.register n with
  | none => .error .programmingFault
  | some v => if isHeaderField n && !d.hdrValid then .error .programmingFault else .ok (respX v, d)

/-- `DEC_REG_READ n` (R102): accepted in `FAULT` (R105). -/
def execDecRegRead (n : BitVec 8) (s : State) : Host.Outcome State Fault Refusal :=
  if s.dec.phase = .fault then s.regReadInFault (s.dec.register n) else s.runDec (fun d => d.regRead n)

/-- The check of `ENC_REG_READ` (R102). -/
def Enc.regRead (e : Enc) (n : BitVec 8) : Except ErrCode (Response × Enc) :=
  match e.register n with
  | none => .error .programmingFault
  | some v => .ok (respX v, e)

/-- `ENC_REG_READ n` (R102): accepted in `FAULT` (R105). -/
def execEncRegRead (n : BitVec 8) (s : State) : Host.Outcome State Fault Refusal :=
  if s.enc.phase = .fault then s.regReadInFault (s.enc.register n) else s.runEnc (fun e => e.regRead n)

end Sys2Proof.Machine
end

