-- ==== Sys2Proof/Machine/Header.lean ====
section
/-! DEFINITION. The STRv2 frame header: validity and `HDR_PARSE` (R94-R97), the count hint and the header bytes
(R99, R100). -/

namespace Sys2Proof.Machine

/-- `HdrValid(BUF)` (R95): length, hint, magic, qscale, version. With one variant known, `identify` is this
predicate (R97). -/
def Dec.hdrOk (d : Dec) : Bool :=
  8 ≤ d.buflen.toNat && 0 ≤ (d.u16 0).toInt && d.u16 2 == Config.magic &&
    (1 ≤ (d.u16 4).toInt && (d.u16 4).toInt ≤ 63) && d.u16 6 == Config.version

/-- `HDR_PARSE` (R96): the latch, and a status that is no fault. -/
def Dec.hdrParse (d : Dec) : Except ErrCode (Response × Dec) :=
  if d.hdrOk then .ok (respXY 1 (BitVec.ofInt 32 (d.u16 4).toInt), d.latchHeader)
  else .ok (⟨.formatNotRecognized, some 0, some 0, none⟩, d.clearHeader)

/-- `HDR_PARSE` (R96). -/
def execHdrParse (s : State) : Host.Outcome State Fault Refusal :=
  s.runDec Dec.hdrParse

/-- `CountHint(N)` (R99): the half count rounded up, then rounded up to a multiple of 32. -/
def countHint (n : Nat) : Nat :=
  roundUp32 (ceilDiv n 2)

/-- `HeaderBytes(h, q, v)` (R100). -/
def headerBytes (h : Code) (q : BitVec 6) (v : Code) : List Byte :=
  [h.extractLsb' 0 8, h.extractLsb' 8 8, 0x00, 0x38, q.setWidth 8, 0x00, v.extractLsb' 0 8, v.extractLsb' 8 8]

end Sys2Proof.Machine
end

