-- ==== Sys2Proof/Machine/Lookup.lean ====
section
/-! DEFINITION. The codebook's two ports: the prefix match and `DecodeAC` (R69, R71), the reverse lookup (R73),
and the commands `CB_DECODE` and `CB_LOOKUP` (R72, R74). -/

namespace Sys2Proof.Machine

/-- The loop of `CbMatch()` (R69) with `p` read so far: one more bit, then an entry whose prefix is `p`, or the
dead end, or on. The first argument is how many more bits the walk may read. -/
def cbWalk (cb : Codebook) : Nat → Bits → Dec → Except ErrCode (Kind × Dec)
  | 0, _, _ => .error .readCorruption
  | fuel + 1, p, d =>
    match d.readBits 1 with
    | .error e => .error e
    | .ok (v, d') =>
      let q := p ++ [v == 1]
      match cb.entries.find? (fun e => e.pfx == q) with
      | some e => .ok (e.kind, d')
      | none =>
        if !cb.entries.any (fun e => q.isPrefixOf e.pfx) || q.length == cb.maxLen then .error .readCorruption
        else cbWalk cb fuel q d'

/-- `CbMatch()` (R69): at most `MAX_PREFIX_LEN` bits. -/
def cbMatch (cb : Codebook) (d : Dec) : Except ErrCode (Kind × Dec) :=
  cbWalk cb cb.maxLen [] d

/-- The kind of an AC-position code (R71). -/
inductive AcKind where
  | normal
  | eob
  | esc
  deriving DecidableEq, Repr

/-- `DecodeAC()` (R71): the prefix, then the sign bit or the escape payload. -/
def decodeAC (cb : Codebook) (d : Dec) : Except ErrCode (AcKind × Code × Dec) :=
  match cbMatch cb d with
  | .error e => .error e
  | .ok (.normal run level, d1) =>
    match d1.readBits 1 with
    | .error e => .error e
    | .ok (v, d2) => .ok (.normal, acWord run level (v == 1), d2)
  | .ok (.esc, d1) =>
    match d1.readBits 16 with
    | .error e => .error e
    | .ok (v, d2) =>
      if isEod (BitVec.ofNat 16 v) then .error .readCorruption else .ok (.esc, BitVec.ofNat 16 v, d2)
  | .ok (.eob, d1) => .ok (.eob, Config.eodWord, d1)

/-- The number of a kind in `CB_DECODE`'s X (R72). -/
def AcKind.code : AcKind → Word32
  | .normal => 0
  | .eob => 1
  | .esc => 2

/-- The response of `CB_DECODE` (R72). -/
def cbDecodeResponse (k : AcKind) (w : Code) : Response :=
  respXY k.code (w.setWidth 32)

/-- `CB_DECODE` (R72): only the cursor moves. -/
def Dec.cbDecode (cb : Codebook) (d : Dec) : Except ErrCode (Response × Dec) :=
  match decodeAC cb d with
  | .error e => .error e
  | .ok (k, w, d') => .ok (cbDecodeResponse k w, d')

/-- `CB_DECODE` (R72). -/
def execCbDecode (s : State) : Host.Outcome State Fault Refusal :=
  s.runDec (Dec.cbDecode Config.codebook)

/-- The entry is NORMAL(run, magnitude). -/
def isPair (run magnitude : Nat) (e : Entry) : Bool :=
  e.kind == .normal run magnitude

/-- `CbLookup(run, level)` (R73): the code with its sign bit, or none for MISS. -/
def cbLookup (cb : Codebook) (run : BitVec 6) (level : BitVec 10) : Option Bits :=
  if level = 0 then none
  else
    match cb.entries.find? (isPair run.toNat (levelMagnitude level)) with
    | some e => some (e.pfx ++ [level.msb])
    | none => none

/-- The response of `CB_LOOKUP` (R74). -/
def cbLookupResponse (r : Option Bits) : Response :=
  match r with
  | some b => respXY (BitVec.ofNat 32 (1 + 256 * b.length)) (BitVec.ofNat 32 (bitsToNat b))
  | none => respXY 0 0

/-- `CB_LOOKUP run, level` (R74): a pure read of the ROM. -/
def execCbLookup (run : BitVec 6) (level : BitVec 10) (s : State) : Host.Outcome State Fault Refusal :=
  s.runEnc (fun e => .ok (cbLookupResponse (cbLookup Config.codebook run level), e))

end Sys2Proof.Machine
end

