-- ==== Sys2Proof/Machine/Writer.lean ====
section
/-! DEFINITION. The writer commands of ENC: `BW_INIT`, `BW_WRITE`, `BW_POS`, `BW_FLUSH` (R64-R67). -/

namespace Sys2Proof.Machine

/-- `BW_INIT order` (R64): all ENC registers except `VERSION`; `OBUF` is not written, only no longer
addressable. -/
def Enc.initWriter (order : Order) (e : Enc) : Enc :=
  { Enc.reset with order := order, version := e.version, obuf := e.obuf }

/-- `BW_INIT` (R64): accepted in `FAULT` (R105), so without the gate. -/
def execBwInit (order : Order) (s : State) : Host.Outcome State Fault Refusal :=
  .next (s.finishEnc (.ok (respStatus .ok, Enc.initWriter order s.enc)))

/-- `BW_WRITE value, n` (R65): the width check, then the low `n` bits, MSB first. -/
def Enc.bwWrite (value : Word32) (n : BitVec 6) (e : Enc) : Except ErrCode (Response × Enc) :=
  if badWidth n then .error .programmingFault
  else
    match e.writeBits (valueBits value n) with
    | .error err => .error err
    | .ok e' => .ok (respX e'.wbits, e')

/-- `BW_WRITE` (R65). -/
def execBwWrite (value : Word32) (n : BitVec 6) (s : State) : Host.Outcome State Fault Refusal :=
  s.runEnc (Enc.bwWrite value n)

/-- `BW_POS` (R66): the bits written and the whole words written. -/
def execBwPos (s : State) : Host.Outcome State Fault Refusal :=
  s.runEnc (fun e => .ok (respXY e.wbits (e.wbits / 16), e))

/-- Store the words of `WSTREAM` at `OBUF[base ..]` in `CFG.ORDER` and set `OUTLEN` (R29, R67, R91). -/
def Enc.storeWords (base : Nat) (e : Enc) : Enc :=
  { e with
    obuf := e.obuf.writeBytes base (streamBytes e.order e.wstream (e.wbits.toNat / 16))
    outlen := BitVec.ofNat 32 (base + 2 * (e.wbits.toNat / 16)) }

/-- The contents of `OBUF`, bytes 0 .. OUTLEN-1, as a response returns them (R54). -/
def Enc.output (e : Enc) : List Byte :=
  e.obuf.bytes e.outlen.toNat

/-- `BW_FLUSH` (R67): zero bits to a word boundary, then the words to `OBUF`. -/
def Enc.bwFlush (e : Enc) : Except ErrCode (Response × Enc) :=
  match e.writeBits (List.replicate e.padding false) with
  | .error err => .error err
  | .ok e1 =>
    let e2 := e1.storeWords 0
    .ok (⟨.ok, some e2.outlen, none, some e2.output⟩, e2)

/-- `BW_FLUSH` (R67). -/
def execBwFlush (s : State) : Host.Outcome State Fault Refusal :=
  s.runEnc Enc.bwFlush

end Sys2Proof.Machine
end

