-- ==== Sys2Proof/Machine/Encoder.lean ====
section
/-! DEFINITION. The encode engine: `ENC_START`, `ENC_PUT` with its three actions, `ENC_FINISH` (R85-R91). -/

namespace Sys2Proof.Machine

/-- `ENC_START mbtotal, version` (R85): a fresh writer and a fresh attempt; `CFG.ORDER` is kept. -/
def Enc.start (mbtotal : BitVec 16) (version : Code) (e : Enc) : Except ErrCode (Response × Enc) :=
  if mbtotal = 0 then .error .programmingFault
  else
    .ok (respStatus .ok,
      { e with
        wstream := []
        wbits := 0
        outlen := 0
        mbtotal := mbtotal
        version := version
        mb := 0
        blk := 0
        qscale := 0
        qvalid := false
        codecount := 0
        taken := []
        phase := .blockStart
        err := .none })

/-- `ENC_START` (R85): accepted in `FAULT` (R105), so without the gate. -/
def execEncStart (mbtotal : BitVec 16) (version : Code) (s : State) : Host.Outcome State Fault Refusal :=
  .next (s.finishEnc (Enc.start mbtotal version s.enc))

/-- A code word is taken: `CODECOUNT + 1`, and the list of R17. -/
def Enc.take (w : Code) (e : Enc) : Enc :=
  { e with codecount := e.codecount + 1, taken := e.taken ++ [w] }

/-- Append the bits of one code and answer with their number, as every action of `ENC_PUT` does. -/
def Enc.putBits (w : Code) (b : Bits) (after : Enc → Enc) (e : Enc) : Except ErrCode (Response × Enc) :=
  match e.writeBits b with
  | .error err => .error err
  | .ok e' => .ok (respX (BitVec.ofNat 32 b.length), after (e'.take w))

/-- A code that opens a block (R87): the three checks in order, the first-seen scale, ten raw DC bits. -/
def Enc.putDc (w : Code) (e : Enc) : Except ErrCode (Response × Enc) :=
  if isEod w then .error .programmingFault
  else if topField w = 0 then .error .incompatible
  else if e.qvalid = true ∧ topField w ≠ e.qscale then .error .incompatible
  else
    Enc.putBits w (wordBits (bottomField w)) (fun e' => { e' with phase := .inBlock })
      { e with qscale := topField w, qvalid := true }

/-- The bits of an AC code word: the table's code, or the escape (R88). -/
def acBits (cb : Codebook) (w : Code) : Bits :=
  match cbLookup cb (topField w) (bottomField w) with
  | some b => b
  | none => Config.escPrefix ++ wordBits w

/-- An AC code (R88). -/
def Enc.putAc (w : Code) (e : Enc) : Except ErrCode (Response × Enc) :=
  Enc.putBits w (acBits Config.codebook w) id e

/-- The block and macroblock bookkeeping after an end-of-block (R89). -/
def Enc.advanceBlock (e : Enc) : Enc :=
  if e.blk = 5 then
    { e with blk := 0, mb := e.mb + 1, phase := if e.mb + 1 = e.mbtotal then .frameDone else .blockStart }
  else { e with blk := e.blk + 1, phase := .blockStart }

/-- An end-of-block code (R89). -/
def Enc.putEob (w : Code) (e : Enc) : Except ErrCode (Response × Enc) :=
  Enc.putBits w Config.eobCode Enc.advanceBlock e

/-- `ENC_PUT w` (R86): the case on `PHASE`. (In `FAULT` the gate answers before this.) -/
def Enc.put (w : Code) (e : Enc) : Except ErrCode (Response × Enc) :=
  match e.phase with
  | .idle => .error .programmingFault
  | .frameDone => .error .programmingFault
  | .finished => .error .programmingFault
  | .blockStart => e.putDc w
  | .inBlock => if isEod w then e.putEob w else e.putAc w
  | .fault => .error e.err

/-- `ENC_PUT` (R86). -/
def execEncPut (w : Code) (s : State) : Host.Outcome State Fault Refusal :=
  s.runEnc (Enc.put w)

/-- The header that `ENC_FINISH` puts in front (R91, R100). -/
def Enc.header (e : Enc) : List Byte :=
  headerBytes (BitVec.ofNat 16 (countHint e.codecount.toNat)) e.qscale e.version

/-- `ENC_FINISH` (R91): the two checks, the trailer, the padding, the header, the words from `OBUF[8]`. -/
def Enc.finish (e : Enc) : Except ErrCode (Response × Enc) :=
  if e.phase ≠ .frameDone then .error .programmingFault
  else if 32767 < countHint e.codecount.toNat then .error .incompatible
  else
    match e.writeBits Config.trailer with
    | .error err => .error err
    | .ok e1 =>
      match e1.writeBits (List.replicate e1.padding false) with
      | .error err => .error err
      | .ok e2 =>
        let e3 := { e2 with obuf := e2.obuf.writeBytes 0 e2.header }.storeWords Config.headerBytes
        let e4 := { e3 with phase := .finished }
        .ok (⟨.ok, some e4.outlen, some e4.codecount, some e4.output⟩, e4)

/-- `ENC_FINISH` (R91). -/
def execEncFinish (s : State) : Host.Outcome State Fault Refusal :=
  s.runEnc Enc.finish

end Sys2Proof.Machine
end

