-- ==== Sys2Proof/Machine/Reader.lean ====
section
/-! DEFINITION. The reader commands of DEC: `BR_INIT`, `BR_READU`, `BR_READS`, `BR_POS` (R60-R63). -/

namespace Sys2Proof.Machine

/-- The DEC unit that `BR_INIT` constructs over a byte sequence: every register is written (R60). -/
def Dec.loaded (order : Order) (offset : Word32) (data : List Byte) : Dec :=
  { Dec.reset with
    order := order
    buf := Mem.ofBytes data
    buflen := BitVec.ofNat 32 data.length
    bitpos := offset }

/-- `BR_INIT DATA, order, offset` (R60): the two checks in order, then the full re-initialisation. -/
def brInit (order : Order) (offset : Word32) (data : List Byte) : Except ErrCode (Response × Dec) :=
  if Config.bufMax.val < data.length then .error .programmingFault
  else if 16 * (data.length / 2) < offset.toNat then .error .programmingFault
  else .ok (respStatus .ok, Dec.loaded order offset data)

/-- `BR_INIT` (R60): accepted in `FAULT` (R105), so without the gate. -/
def execBrInit (order : Order) (offset : Word32) (data : List Byte) (s : State) : Host.Outcome State Fault Refusal :=
  .next (s.finishDec (brInit order offset data))

/-- A raw read of `n` bits whose value is shown by `view` (R61, R62): the width check, then `ReadBits(n)`. -/
def Dec.rawRead (n : BitVec 6) (view : Nat → Word32) (d : Dec) : Except ErrCode (Response × Dec) :=
  if badWidth n then .error .programmingFault
  else
    match d.readBits n.toNat with
    | .error e => .error e
    | .ok (v, d') => .ok (respX (view v), d')

/-- `BR_READU n` (R61): the unsigned value. -/
def execBrReadU (n : BitVec 6) (s : State) : Host.Outcome State Fault Refusal :=
  s.runDec (Dec.rawRead n (fun v => BitVec.ofNat 32 v))

/-- `BR_READS n` (R62): the value sign-extended from its top bit. -/
def execBrReadS (n : BitVec 6) (s : State) : Host.Outcome State Fault Refusal :=
  s.runDec (Dec.rawRead n (fun v => sext32 n.toNat v))

/-- `BR_POS` (R63): the cursor in bits and in 16-bit words. -/
def execBrPos (s : State) : Host.Outcome State Fault Refusal :=
  s.runDec (fun d => .ok (respXY d.bitpos (d.bitpos / 16), d))

end Sys2Proof.Machine
end

