-- ==== Sys2Proof/Machine/Engine.lean ====
section
/-! DEFINITION. The decode engine: `DEC_START`, `DEC_STEP` with its three actions, `DEC_SKIP_MB` and
`DEC_SKIP_PADDING` (R76-R83). -/

namespace Sys2Proof.Machine

/-- `DEC_START qmode, qscale, mbtotal` (R76): the two checks in order, then the registers it lists. -/
def Dec.start (qmode : QMode) (qscale : BitVec 6) (mbtotal : BitVec 16) (d : Dec) : Except ErrCode (Response × Dec) :=
  if mbtotal = 0 then .error .programmingFault
  else if qmode = .global ∧ qscale = 0 then .error .programmingFault
  else
    .ok (respStatus .ok,
      { d with
        qmode := qmode
        qscale := if qmode = .global then qscale else 0
        mbtotal := mbtotal
        mb := 0
        blk := 0
        codecount := 0
        esczero := 0
        padwarn := false
        paddone := false
        lastWord := 0
        lastValid := false
        out := []
        phase := .blockStart })

/-- `DEC_START` (R76). -/
def execDecStart (qmode : QMode) (qscale : BitVec 6) (mbtotal : BitVec 16) (s : State) : Host.Outcome State Fault Refusal :=
  s.runDec (Dec.start qmode qscale mbtotal)

/-- The response of a step that emits `w` (R77). -/
def emitted (w : Code) : Response :=
  respXY 1 (w.setWidth 32)

/-- The DC field at the cursor as a code word, by `QMODE` (R42, R43, R78). -/
def Dec.readDc (d : Dec) : Except ErrCode (Code × Dec) :=
  match d.qmode with
  | .global =>
    match d.readBits 10 with
    | .error e => .error e
    | .ok (v, d') => .ok (pack d.qscale (BitVec.ofNat 10 v), d')
  | .perBlock =>
    match d.readBits 16 with
    | .error e => .error e
    | .ok (v, d') => .ok (BitVec.ofNat 16 v, d')

/-- The rest of R78 with the DC field read: the collision check, `Emit`, and `READING_AC`. -/
def Dec.takeDc (w : Code) (d : Dec) : Except ErrCode (Response × Dec) :=
  if isEod w then .error .readCorruption
  else .ok (emitted w, { d.emit w with phase := .readingAc })

/-- The action of `BLOCK_START` (R78). -/
def Dec.dcAction (d : Dec) : Except ErrCode (Response × Dec) :=
  match d.readDc with
  | .error e => .error e
  | .ok (w, d') => d'.takeDc w

/-- The rest of R79 with the code decoded: log a level-0 escape, `Emit`, and `BLOCK_DONE` after an end-of-block. -/
def Dec.takeAc (k : AcKind) (w : Code) (d : Dec) : Response × Dec :=
  let d1 := (d.logEscZero (k == .esc) w).emit w
  (emitted w, if k = .eob then { d1 with phase := .blockDone } else d1)

/-- The action of `READING_AC` (R79): one code. -/
def Dec.acAction (d : Dec) : Except ErrCode (Response × Dec) :=
  match decodeAC Config.codebook d with
  | .error e => .error e
  | .ok (k, w, d') => .ok (d'.takeAc k w)

/-- The action of `BLOCK_DONE` (R80). -/
def Dec.advanceBlock (d : Dec) : Dec :=
  if d.blk = 5 then
    { d with blk := 0, mb := d.mb + 1, phase := if d.mb + 1 = d.mbtotal then .frameDone else .blockStart }
  else { d with blk := d.blk + 1, phase := .blockStart }

/-- `DEC_STEP`'s case on `PHASE` (R77), with the actions of the two phases that read a stream element. (In
`FAULT` the gate answers before this.) -/
def Dec.stepWith (dc ac : Dec → Except ErrCode (Response × Dec)) (d : Dec) : Except ErrCode (Response × Dec) :=
  match d.phase with
  | .idle => .error .programmingFault
  | .blockStart => dc d
  | .readingAc => ac d
  | .blockDone => .ok (respXY 0 0, d.advanceBlock)
  | .frameDone => .ok (⟨.done, some 0, some 0, none⟩, d)
  | .fault => .error d.err

/-- One step of the engine (R77). -/
def Dec.step (d : Dec) : Except ErrCode (Response × Dec) :=
  Dec.stepWith Dec.dcAction Dec.acAction d

/-- `DEC_STEP` (R77). -/
def execDecStep (s : State) : Host.Outcome State Fault Refusal :=
  s.runDec Dec.step

/-- How a run of `DEC_SKIP_MB`'s loop ends (R81). -/
inductive SkipEnd where
  /-- At a phase of the loop's exit. -/
  | finished (d : Dec)
  /-- A step raised `e`; `d` is the unit at the start of that step (R104). -/
  | raised (e : ErrCode) (d : Dec)
  /-- The bound of the recursion was used up. -/
  | unfinished
  deriving DecidableEq, Repr

/-- The loop of `DEC_SKIP_MB` (R81): steps until `FRAME_DONE` or a raise, at most `fuel` of them. -/
def Dec.skipLoop : Nat → Dec → SkipEnd
  | 0, d => if d.phase = .frameDone then .finished d else .unfinished
  | fuel + 1, d =>
    if d.phase = .frameDone then .finished d
    else
      match d.step with
      | .error e => .raised e d
      | .ok (_, d') => Dec.skipLoop fuel d'

/-- The bound of the loop: `NBITS + 6·MBTOTAL` actions (R82), and two more for states that no run reaches
(assumption log 14). -/
def Dec.skipBound (d : Dec) : Nat :=
  d.nbits.toNat + Config.blocksPerMb * d.mbtotal.toNat + 2

/-- `ceil_div(BITPOS, 16)`, the consumed length in words (R31). -/
def Dec.consumedWords (d : Dec) : Word32 :=
  BitVec.ofNat 32 (ceilDiv d.bitpos.toNat 16)

/-- The end of `DEC_SKIP_MB`: the steps before a failing one keep their effects (R81, R104). -/
def State.finishSkip (s : State) (r : SkipEnd) : Host.Outcome State Fault Refusal :=
  match r with
  | .finished d => .next ((s.withDec d).respond (respXY d.bitpos d.consumedWords))
  | .raised e d => .next ((s.withDec d).raiseDec e)
  | .unfinished => .fault .skipBound

/-- `DEC_SKIP_MB` (R81). -/
def execDecSkipMb (s : State) : Host.Outcome State Fault Refusal :=
  if s.dec.phase = .fault then .next s.gatedDec
  else if s.dec.phase = .idle then .next (s.raiseDec .programmingFault)
  else s.finishSkip (Dec.skipLoop s.dec.skipBound s.dec)

/-- `DEC_SKIP_PADDING` with its read of 11 bits given by `read` (R83). -/
def Dec.skipPaddingWith (read : Dec → Except ErrCode (Nat × Dec)) (d : Dec) : Except ErrCode (Response × Dec) :=
  if d.phase ≠ .frameDone ∨ d.paddone = true then .error .programmingFault
  else
    match read d with
    | .error e => .error e
    | .ok (v, d') =>
      let d2 := d'.setPadding v
      .ok (respXY (BitVec.ofNat 32 v) (flagWord d2.padwarn), d2)

/-- `DEC_SKIP_PADDING` (R83). -/
def execDecSkipPadding (s : State) : Host.Outcome State Fault Refusal :=
  s.runDec (Dec.skipPaddingWith (fun d => d.readBits Config.trailer.length))

end Sys2Proof.Machine
end

