-- ==== Sys2Proof/Machine/Elements.lean ====
section
/-! DEFINITION. The stream elements as instructions: DC_GLOBAL, DC_PER_BLOCK, ESC, EOB, TRAILER, and the shared
operation of the VLC rows. "Instruction fetch" is the decode engine reading the bit stream (R38), and the
cursor is the stream's program counter (R58). The meaning of an element is what the block does with it as the
element at the cursor: under `CB_DECODE` an AC code only moves the cursor and is reported (R72); otherwise it is
the element that one `DEC_STEP` performs (R77-R79), and TRAILER the one that `DEC_SKIP_PADDING` reads (R83). How
an element becomes the current one is in assumption log 10. -/

namespace Sys2Proof.Machine

/-- The command the block is performing is `CB_DECODE` (R55). -/
def State.underCbDecode (s : State) : Bool :=
  match s.port.pending with
  | [] => false
  | c :: _ => c.cmd == 0x06

/-- The `len` bits of an element are consumed: `EndOfStream` where they are not all there (R57). -/
def Dec.consume (len : Nat) (d : Dec) : Except ErrCode Dec :=
  if d.short len then .error .endOfStream else .ok (d.advance len)

/-- An AC code of `len` bits that stands for the word `w`, as `DecodeAC` returns it (R71): an escape payload
equal to `EOD_WORD` raises `ReadCorruption`. -/
def Dec.consumeAc (len : Nat) (k : AcKind) (w : Code) (d : Dec) : Except ErrCode (AcKind × Code × Dec) :=
  match d.consume len with
  | .error e => .error e
  | .ok d' => if (k == .esc) && isEod w then .error .readCorruption else .ok (k, w, d')

/-- The element as the one that `DEC_STEP` performs (R77): `reads` says that the phase reads this element at the
cursor, `act` what the phase does with it. Where the phase reads an element of another kind, the element does not
stand here: refused by name. -/
def State.stepElement (s : State) (reads : Bool) (act : Dec → Except ErrCode (Response × Dec)) : Host.Outcome State Fault Refusal :=
  if (s.dec.phase = .blockStart ∨ s.dec.phase = .readingAc) ∧ reads = false then .refused .notInPosition
  else s.runDec (Dec.stepWith act act)

/-- An AC code of `len` bits that stands for `w` (R71, R72, R79). -/
def State.acElement (s : State) (len : Nat) (k : AcKind) (w : Code) : Host.Outcome State Fault Refusal :=
  if s.underCbDecode then
    s.runDec (fun d =>
      match d.consumeAc len k w with
      | .error e => .error e
      | .ok (k, w, d') => .ok (cbDecodeResponse k w, d'))
  else
    s.stepElement (s.dec.phase == .readingAc) (fun d =>
      match d.consumeAc len k w with
      | .error e => .error e
      | .ok (k, w, d') => .ok (d'.takeAc k w))

/-- A table code of `bits` bits, sign bit included, for the pair (run, level) (R44, R71). -/
def State.vlcElement (s : State) (bits run level : Nat) (neg : Bool) : Host.Outcome State Fault Refusal :=
  s.acElement bits .normal (acWord run level neg)

/-- A DC field of `len` bits that stands for the word `w` in mode `mode` (R42, R43, R78). -/
def State.dcElement (s : State) (mode : QMode) (len : Nat) (w : Code) : Host.Outcome State Fault Refusal :=
  s.stepElement (s.dec.phase == .blockStart && s.dec.qmode == mode) (fun d =>
    match d.consume len with
    | .error e => .error e
    | .ok d' => d'.takeDc w)

/-- `DC_GLOBAL` (R42, R78): top is `DEC.QSCALE`. -/
def execDcGlobal (d : BitVec 10) (s : State) : Host.Outcome State Fault Refusal :=
  s.dcElement .global 10 (pack s.dec.qscale d)

/-- `DC_PER_BLOCK` (R43, R78). -/
def execDcPerBlock (q : BitVec 6) (d : BitVec 10) (s : State) : Host.Outcome State Fault Refusal :=
  s.dcElement .perBlock 16 (pack q d)

/-- `EOB` (R46, R71, R79). -/
def execEob (s : State) : Host.Outcome State Fault Refusal :=
  s.acElement 2 .eob Config.eodWord

/-- `ESC` (R45, R71, R79). -/
def execEsc (r : BitVec 6) (l : BitVec 10) (s : State) : Host.Outcome State Fault Refusal :=
  s.acElement 22 .esc (pack r l)

/-- `TRAILER` (R47, R83): the pattern as `DEC_SKIP_PADDING` reads it. -/
def execTrailer (s : State) : Host.Outcome State Fault Refusal :=
  s.runDec (Dec.skipPaddingWith (fun d =>
    match d.consume Config.trailer.length with
    | .error e => .error e
    | .ok d' => .ok (bitsToNat Config.trailer, d')))

end Sys2Proof.Machine
end

