-- ==== Sys2Proof/Machine/Vlc.lean ====
section
/-! DEFINITION. The 111 VLC rows as instructions, each with its code's length, run and level of R48 (sign bit
included in the length), over the shared operation `State.vlcElement` (R44, R71, R79). -/

namespace Sys2Proof.Machine

/-- `VLC_R0_L1`: code `11s` (R48). -/
def execVlcR0L1 (neg : Bool) (s : State) : Host.Outcome State Fault Refusal :=
  s.vlcElement 3 0 1 neg

/-- `VLC_R1_L1`: code `011s` (R48). -/
def execVlcR1L1 (neg : Bool) (s : State) : Host.Outcome State Fault Refusal :=
  s.vlcElement 4 1 1 neg

/-- `VLC_R0_L2`: code `0100s` (R48). -/
def execVlcR0L2 (neg : Bool) (s : State) : Host.Outcome State Fault Refusal :=
  s.vlcElement 5 0 2 neg

/-- `VLC_R2_L1`: code `0101s` (R48). -/
def execVlcR2L1 (neg : Bool) (s : State) : Host.Outcome State Fault Refusal :=
  s.vlcElement 5 2 1 neg

/-- `VLC_R0_L3`: code `00101s` (R48). -/
def execVlcR0L3 (neg : Bool) (s : State) : Host.Outcome State Fault Refusal :=
  s.vlcElement 6 0 3 neg

/-- `VLC_R4_L1`: code `00110s` (R48). -/
def execVlcR4L1 (neg : Bool) (s : State) : Host.Outcome State Fault Refusal :=
  s.vlcElement 6 4 1 neg

/-- `VLC_R3_L1`: code `00111s` (R48). -/
def execVlcR3L1 (neg : Bool) (s : State) : Host.Outcome State Fault Refusal :=
  s.vlcElement 6 3 1 neg

/-- `VLC_R7_L1`: code `000100s` (R48). -/
def execVlcR7L1 (neg : Bool) (s : State) : Host.Outcome State Fault Refusal :=
  s.vlcElement 7 7 1 neg

/-- `VLC_R6_L1`: code `000101s` (R48). -/
def execVlcR6L1 (neg : Bool) (s : State) : Host.Outcome State Fault Refusal :=
  s.vlcElement 7 6 1 neg

/-- `VLC_R1_L2`: code `000110s` (R48). -/
def execVlcR1L2 (neg : Bool) (s : State) : Host.Outcome State Fault Refusal :=
  s.vlcElement 7 1 2 neg

/-- `VLC_R5_L1`: code `000111s` (R48). -/
def execVlcR5L1 (neg : Bool) (s : State) : Host.Outcome State Fault Refusal :=
  s.vlcElement 7 5 1 neg

/-- `VLC_R2_L2`: code `0000100s` (R48). -/
def execVlcR2L2 (neg : Bool) (s : State) : Host.Outcome State Fault Refusal :=
  s.vlcElement 8 2 2 neg

/-- `VLC_R9_L1`: code `0000101s` (R48). -/
def execVlcR9L1 (neg : Bool) (s : State) : Host.Outcome State Fault Refusal :=
  s.vlcElement 8 9 1 neg

/-- `VLC_R0_L4`: code `0000110s` (R48). -/
def execVlcR0L4 (neg : Bool) (s : State) : Host.Outcome State Fault Refusal :=
  s.vlcElement 8 0 4 neg

/-- `VLC_R8_L1`: code `0000111s` (R48). -/
def execVlcR8L1 (neg : Bool) (s : State) : Host.Outcome State Fault Refusal :=
  s.vlcElement 8 8 1 neg

/-- `VLC_R13_L1`: code `00100000s` (R48). -/
def execVlcR13L1 (neg : Bool) (s : State) : Host.Outcome State Fault Refusal :=
  s.vlcElement 9 13 1 neg

/-- `VLC_R0_L6`: code `00100001s` (R48). -/
def execVlcR0L6 (neg : Bool) (s : State) : Host.Outcome State Fault Refusal :=
  s.vlcElement 9 0 6 neg

/-- `VLC_R12_L1`: code `00100010s` (R48). -/
def execVlcR12L1 (neg : Bool) (s : State) : Host.Outcome State Fault Refusal :=
  s.vlcElement 9 12 1 neg

/-- `VLC_R11_L1`: code `00100011s` (R48). -/
def execVlcR11L1 (neg : Bool) (s : State) : Host.Outcome State Fault Refusal :=
  s.vlcElement 9 11 1 neg

/-- `VLC_R3_L2`: code `00100100s` (R48). -/
def execVlcR3L2 (neg : Bool) (s : State) : Host.Outcome State Fault Refusal :=
  s.vlcElement 9 3 2 neg

/-- `VLC_R1_L3`: code `00100101s` (R48). -/
def execVlcR1L3 (neg : Bool) (s : State) : Host.Outcome State Fault Refusal :=
  s.vlcElement 9 1 3 neg

/-- `VLC_R0_L5`: code `00100110s` (R48). -/
def execVlcR0L5 (neg : Bool) (s : State) : Host.Outcome State Fault Refusal :=
  s.vlcElement 9 0 5 neg

/-- `VLC_R10_L1`: code `00100111s` (R48). -/
def execVlcR10L1 (neg : Bool) (s : State) : Host.Outcome State Fault Refusal :=
  s.vlcElement 9 10 1 neg

/-- `VLC_R16_L1`: code `0000001000s` (R48). -/
def execVlcR16L1 (neg : Bool) (s : State) : Host.Outcome State Fault Refusal :=
  s.vlcElement 11 16 1 neg

/-- `VLC_R5_L2`: code `0000001001s` (R48). -/
def execVlcR5L2 (neg : Bool) (s : State) : Host.Outcome State Fault Refusal :=
  s.vlcElement 11 5 2 neg

/-- `VLC_R0_L7`: code `0000001010s` (R48). -/
def execVlcR0L7 (neg : Bool) (s : State) : Host.Outcome State Fault Refusal :=
  s.vlcElement 11 0 7 neg

/-- `VLC_R2_L3`: code `0000001011s` (R48). -/
def execVlcR2L3 (neg : Bool) (s : State) : Host.Outcome State Fault Refusal :=
  s.vlcElement 11 2 3 neg

/-- `VLC_R1_L4`: code `0000001100s` (R48). -/
def execVlcR1L4 (neg : Bool) (s : State) : Host.Outcome State Fault Refusal :=
  s.vlcElement 11 1 4 neg

/-- `VLC_R15_L1`: code `0000001101s` (R48). -/
def execVlcR15L1 (neg : Bool) (s : State) : Host.Outcome State Fault Refusal :=
  s.vlcElement 11 15 1 neg

/-- `VLC_R14_L1`: code `0000001110s` (R48). -/
def execVlcR14L1 (neg : Bool) (s : State) : Host.Outcome State Fault Refusal :=
  s.vlcElement 11 14 1 neg

/-- `VLC_R4_L2`: code `0000001111s` (R48). -/
def execVlcR4L2 (neg : Bool) (s : State) : Host.Outcome State Fault Refusal :=
  s.vlcElement 11 4 2 neg

/-- `VLC_R0_L11`: code `000000010000s` (R48). -/
def execVlcR0L11 (neg : Bool) (s : State) : Host.Outcome State Fault Refusal :=
  s.vlcElement 13 0 11 neg

/-- `VLC_R8_L2`: code `000000010001s` (R48). -/
def execVlcR8L2 (neg : Bool) (s : State) : Host.Outcome State Fault Refusal :=
  s.vlcElement 13 8 2 neg

/-- `VLC_R4_L3`: code `000000010010s` (R48). -/
def execVlcR4L3 (neg : Bool) (s : State) : Host.Outcome State Fault Refusal :=
  s.vlcElement 13 4 3 neg

/-- `VLC_R0_L10`: code `000000010011s` (R48). -/
def execVlcR0L10 (neg : Bool) (s : State) : Host.Outcome State Fault Refusal :=
  s.vlcElement 13 0 10 neg

/-- `VLC_R2_L4`: code `000000010100s` (R48). -/
def execVlcR2L4 (neg : Bool) (s : State) : Host.Outcome State Fault Refusal :=
  s.vlcElement 13 2 4 neg

/-- `VLC_R7_L2`: code `000000010101s` (R48). -/
def execVlcR7L2 (neg : Bool) (s : State) : Host.Outcome State Fault Refusal :=
  s.vlcElement 13 7 2 neg

/-- `VLC_R21_L1`: code `000000010110s` (R48). -/
def execVlcR21L1 (neg : Bool) (s : State) : Host.Outcome State Fault Refusal :=
  s.vlcElement 13 21 1 neg

/-- `VLC_R20_L1`: code `000000010111s` (R48). -/
def execVlcR20L1 (neg : Bool) (s : State) : Host.Outcome State Fault Refusal :=
  s.vlcElement 13 20 1 neg

/-- `VLC_R0_L9`: code `000000011000s` (R48). -/
def execVlcR0L9 (neg : Bool) (s : State) : Host.Outcome State Fault Refusal :=
  s.vlcElement 13 0 9 neg

/-- `VLC_R19_L1`: code `000000011001s` (R48). -/
def execVlcR19L1 (neg : Bool) (s : State) : Host.Outcome State Fault Refusal :=
  s.vlcElement 13 19 1 neg

/-- `VLC_R18_L1`: code `000000011010s` (R48). -/
def execVlcR18L1 (neg : Bool) (s : State) : Host.Outcome State Fault Refusal :=
  s.vlcElement 13 18 1 neg

/-- `VLC_R1_L5`: code `000000011011s` (R48). -/
def execVlcR1L5 (neg : Bool) (s : State) : Host.Outcome State Fault Refusal :=
  s.vlcElement 13 1 5 neg

/-- `VLC_R3_L3`: code `000000011100s` (R48). -/
def execVlcR3L3 (neg : Bool) (s : State) : Host.Outcome State Fault Refusal :=
  s.vlcElement 13 3 3 neg

/-- `VLC_R0_L8`: code `000000011101s` (R48). -/
def execVlcR0L8 (neg : Bool) (s : State) : Host.Outcome State Fault Refusal :=
  s.vlcElement 13 0 8 neg

/-- `VLC_R6_L2`: code `000000011110s` (R48). -/
def execVlcR6L2 (neg : Bool) (s : State) : Host.Outcome State Fault Refusal :=
  s.vlcElement 13 6 2 neg

/-- `VLC_R17_L1`: code `000000011111s` (R48). -/
def execVlcR17L1 (neg : Bool) (s : State) : Host.Outcome State Fault Refusal :=
  s.vlcElement 13 17 1 neg

/-- `VLC_R10_L2`: code `0000000010000s` (R48). -/
def execVlcR10L2 (neg : Bool) (s : State) : Host.Outcome State Fault Refusal :=
  s.vlcElement 14 10 2 neg

/-- `VLC_R9_L2`: code `0000000010001s` (R48). -/
def execVlcR9L2 (neg : Bool) (s : State) : Host.Outcome State Fault Refusal :=
  s.vlcElement 14 9 2 neg

/-- `VLC_R5_L3`: code `0000000010010s` (R48). -/
def execVlcR5L3 (neg : Bool) (s : State) : Host.Outcome State Fault Refusal :=
  s.vlcElement 14 5 3 neg

/-- `VLC_R3_L4`: code `0000000010011s` (R48). -/
def execVlcR3L4 (neg : Bool) (s : State) : Host.Outcome State Fault Refusal :=
  s.vlcElement 14 3 4 neg

/-- `VLC_R2_L5`: code `0000000010100s` (R48). -/
def execVlcR2L5 (neg : Bool) (s : State) : Host.Outcome State Fault Refusal :=
  s.vlcElement 14 2 5 neg

/-- `VLC_R1_L7`: code `0000000010101s` (R48). -/
def execVlcR1L7 (neg : Bool) (s : State) : Host.Outcome State Fault Refusal :=
  s.vlcElement 14 1 7 neg

/-- `VLC_R1_L6`: code `0000000010110s` (R48). -/
def execVlcR1L6 (neg : Bool) (s : State) : Host.Outcome State Fault Refusal :=
  s.vlcElement 14 1 6 neg

/-- `VLC_R0_L15`: code `0000000010111s` (R48). -/
def execVlcR0L15 (neg : Bool) (s : State) : Host.Outcome State Fault Refusal :=
  s.vlcElement 14 0 15 neg

/-- `VLC_R0_L14`: code `0000000011000s` (R48). -/
def execVlcR0L14 (neg : Bool) (s : State) : Host.Outcome State Fault Refusal :=
  s.vlcElement 14 0 14 neg

/-- `VLC_R0_L13`: code `0000000011001s` (R48). -/
def execVlcR0L13 (neg : Bool) (s : State) : Host.Outcome State Fault Refusal :=
  s.vlcElement 14 0 13 neg

/-- `VLC_R0_L12`: code `0000000011010s` (R48). -/
def execVlcR0L12 (neg : Bool) (s : State) : Host.Outcome State Fault Refusal :=
  s.vlcElement 14 0 12 neg

/-- `VLC_R26_L1`: code `0000000011011s` (R48). -/
def execVlcR26L1 (neg : Bool) (s : State) : Host.Outcome State Fault Refusal :=
  s.vlcElement 14 26 1 neg

/-- `VLC_R25_L1`: code `0000000011100s` (R48). -/
def execVlcR25L1 (neg : Bool) (s : State) : Host.Outcome State Fault Refusal :=
  s.vlcElement 14 25 1 neg

/-- `VLC_R24_L1`: code `0000000011101s` (R48). -/
def execVlcR24L1 (neg : Bool) (s : State) : Host.Outcome State Fault Refusal :=
  s.vlcElement 14 24 1 neg

/-- `VLC_R23_L1`: code `0000000011110s` (R48). -/
def execVlcR23L1 (neg : Bool) (s : State) : Host.Outcome State Fault Refusal :=
  s.vlcElement 14 23 1 neg

/-- `VLC_R22_L1`: code `0000000011111s` (R48). -/
def execVlcR22L1 (neg : Bool) (s : State) : Host.Outcome State Fault Refusal :=
  s.vlcElement 14 22 1 neg

/-- `VLC_R0_L31`: code `00000000010000s` (R48). -/
def execVlcR0L31 (neg : Bool) (s : State) : Host.Outcome State Fault Refusal :=
  s.vlcElement 15 0 31 neg

/-- `VLC_R0_L30`: code `00000000010001s` (R48). -/
def execVlcR0L30 (neg : Bool) (s : State) : Host.Outcome State Fault Refusal :=
  s.vlcElement 15 0 30 neg

/-- `VLC_R0_L29`: code `00000000010010s` (R48). -/
def execVlcR0L29 (neg : Bool) (s : State) : Host.Outcome State Fault Refusal :=
  s.vlcElement 15 0 29 neg

/-- `VLC_R0_L28`: code `00000000010011s` (R48). -/
def execVlcR0L28 (neg : Bool) (s : State) : Host.Outcome State Fault Refusal :=
  s.vlcElement 15 0 28 neg

/-- `VLC_R0_L27`: code `00000000010100s` (R48). -/
def execVlcR0L27 (neg : Bool) (s : State) : Host.Outcome State Fault Refusal :=
  s.vlcElement 15 0 27 neg

/-- `VLC_R0_L26`: code `00000000010101s` (R48). -/
def execVlcR0L26 (neg : Bool) (s : State) : Host.Outcome State Fault Refusal :=
  s.vlcElement 15 0 26 neg

/-- `VLC_R0_L25`: code `00000000010110s` (R48). -/
def execVlcR0L25 (neg : Bool) (s : State) : Host.Outcome State Fault Refusal :=
  s.vlcElement 15 0 25 neg

/-- `VLC_R0_L24`: code `00000000010111s` (R48). -/
def execVlcR0L24 (neg : Bool) (s : State) : Host.Outcome State Fault Refusal :=
  s.vlcElement 15 0 24 neg

/-- `VLC_R0_L23`: code `00000000011000s` (R48). -/
def execVlcR0L23 (neg : Bool) (s : State) : Host.Outcome State Fault Refusal :=
  s.vlcElement 15 0 23 neg

/-- `VLC_R0_L22`: code `00000000011001s` (R48). -/
def execVlcR0L22 (neg : Bool) (s : State) : Host.Outcome State Fault Refusal :=
  s.vlcElement 15 0 22 neg

/-- `VLC_R0_L21`: code `00000000011010s` (R48). -/
def execVlcR0L21 (neg : Bool) (s : State) : Host.Outcome State Fault Refusal :=
  s.vlcElement 15 0 21 neg

/-- `VLC_R0_L20`: code `00000000011011s` (R48). -/
def execVlcR0L20 (neg : Bool) (s : State) : Host.Outcome State Fault Refusal :=
  s.vlcElement 15 0 20 neg

/-- `VLC_R0_L19`: code `00000000011100s` (R48). -/
def execVlcR0L19 (neg : Bool) (s : State) : Host.Outcome State Fault Refusal :=
  s.vlcElement 15 0 19 neg

/-- `VLC_R0_L18`: code `00000000011101s` (R48). -/
def execVlcR0L18 (neg : Bool) (s : State) : Host.Outcome State Fault Refusal :=
  s.vlcElement 15 0 18 neg

/-- `VLC_R0_L17`: code `00000000011110s` (R48). -/
def execVlcR0L17 (neg : Bool) (s : State) : Host.Outcome State Fault Refusal :=
  s.vlcElement 15 0 17 neg

/-- `VLC_R0_L16`: code `00000000011111s` (R48). -/
def execVlcR0L16 (neg : Bool) (s : State) : Host.Outcome State Fault Refusal :=
  s.vlcElement 15 0 16 neg

/-- `VLC_R0_L40`: code `000000000010000s` (R48). -/
def execVlcR0L40 (neg : Bool) (s : State) : Host.Outcome State Fault Refusal :=
  s.vlcElement 16 0 40 neg

/-- `VLC_R0_L39`: code `000000000010001s` (R48). -/
def execVlcR0L39 (neg : Bool) (s : State) : Host.Outcome State Fault Refusal :=
  s.vlcElement 16 0 39 neg

/-- `VLC_R0_L38`: code `000000000010010s` (R48). -/
def execVlcR0L38 (neg : Bool) (s : State) : Host.Outcome State Fault Refusal :=
  s.vlcElement 16 0 38 neg

/-- `VLC_R0_L37`: code `000000000010011s` (R48). -/
def execVlcR0L37 (neg : Bool) (s : State) : Host.Outcome State Fault Refusal :=
  s.vlcElement 16 0 37 neg

/-- `VLC_R0_L36`: code `000000000010100s` (R48). -/
def execVlcR0L36 (neg : Bool) (s : State) : Host.Outcome State Fault Refusal :=
  s.vlcElement 16 0 36 neg

/-- `VLC_R0_L35`: code `000000000010101s` (R48). -/
def execVlcR0L35 (neg : Bool) (s : State) : Host.Outcome State Fault Refusal :=
  s.vlcElement 16 0 35 neg

/-- `VLC_R0_L34`: code `000000000010110s` (R48). -/
def execVlcR0L34 (neg : Bool) (s : State) : Host.Outcome State Fault Refusal :=
  s.vlcElement 16 0 34 neg

/-- `VLC_R0_L33`: code `000000000010111s` (R48). -/
def execVlcR0L33 (neg : Bool) (s : State) : Host.Outcome State Fault Refusal :=
  s.vlcElement 16 0 33 neg

/-- `VLC_R0_L32`: code `000000000011000s` (R48). -/
def execVlcR0L32 (neg : Bool) (s : State) : Host.Outcome State Fault Refusal :=
  s.vlcElement 16 0 32 neg

/-- `VLC_R1_L14`: code `000000000011001s` (R48). -/
def execVlcR1L14 (neg : Bool) (s : State) : Host.Outcome State Fault Refusal :=
  s.vlcElement 16 1 14 neg

/-- `VLC_R1_L13`: code `000000000011010s` (R48). -/
def execVlcR1L13 (neg : Bool) (s : State) : Host.Outcome State Fault Refusal :=
  s.vlcElement 16 1 13 neg

/-- `VLC_R1_L12`: code `000000000011011s` (R48). -/
def execVlcR1L12 (neg : Bool) (s : State) : Host.Outcome State Fault Refusal :=
  s.vlcElement 16 1 12 neg

/-- `VLC_R1_L11`: code `000000000011100s` (R48). -/
def execVlcR1L11 (neg : Bool) (s : State) : Host.Outcome State Fault Refusal :=
  s.vlcElement 16 1 11 neg

/-- `VLC_R1_L10`: code `000000000011101s` (R48). -/
def execVlcR1L10 (neg : Bool) (s : State) : Host.Outcome State Fault Refusal :=
  s.vlcElement 16 1 10 neg

/-- `VLC_R1_L9`: code `000000000011110s` (R48). -/
def execVlcR1L9 (neg : Bool) (s : State) : Host.Outcome State Fault Refusal :=
  s.vlcElement 16 1 9 neg

/-- `VLC_R1_L8`: code `000000000011111s` (R48). -/
def execVlcR1L8 (neg : Bool) (s : State) : Host.Outcome State Fault Refusal :=
  s.vlcElement 16 1 8 neg

/-- `VLC_R1_L18`: code `0000000000010000s` (R48). -/
def execVlcR1L18 (neg : Bool) (s : State) : Host.Outcome State Fault Refusal :=
  s.vlcElement 17 1 18 neg

/-- `VLC_R1_L17`: code `0000000000010001s` (R48). -/
def execVlcR1L17 (neg : Bool) (s : State) : Host.Outcome State Fault Refusal :=
  s.vlcElement 17 1 17 neg

/-- `VLC_R1_L16`: code `0000000000010010s` (R48). -/
def execVlcR1L16 (neg : Bool) (s : State) : Host.Outcome State Fault Refusal :=
  s.vlcElement 17 1 16 neg

/-- `VLC_R1_L15`: code `0000000000010011s` (R48). -/
def execVlcR1L15 (neg : Bool) (s : State) : Host.Outcome State Fault Refusal :=
  s.vlcElement 17 1 15 neg

/-- `VLC_R6_L3`: code `0000000000010100s` (R48). -/
def execVlcR6L3 (neg : Bool) (s : State) : Host.Outcome State Fault Refusal :=
  s.vlcElement 17 6 3 neg

/-- `VLC_R16_L2`: code `0000000000010101s` (R48). -/
def execVlcR16L2 (neg : Bool) (s : State) : Host.Outcome State Fault Refusal :=
  s.vlcElement 17 16 2 neg

/-- `VLC_R15_L2`: code `0000000000010110s` (R48). -/
def execVlcR15L2 (neg : Bool) (s : State) : Host.Outcome State Fault Refusal :=
  s.vlcElement 17 15 2 neg

/-- `VLC_R14_L2`: code `0000000000010111s` (R48). -/
def execVlcR14L2 (neg : Bool) (s : State) : Host.Outcome State Fault Refusal :=
  s.vlcElement 17 14 2 neg

/-- `VLC_R13_L2`: code `0000000000011000s` (R48). -/
def execVlcR13L2 (neg : Bool) (s : State) : Host.Outcome State Fault Refusal :=
  s.vlcElement 17 13 2 neg

/-- `VLC_R12_L2`: code `0000000000011001s` (R48). -/
def execVlcR12L2 (neg : Bool) (s : State) : Host.Outcome State Fault Refusal :=
  s.vlcElement 17 12 2 neg

/-- `VLC_R11_L2`: code `0000000000011010s` (R48). -/
def execVlcR11L2 (neg : Bool) (s : State) : Host.Outcome State Fault Refusal :=
  s.vlcElement 17 11 2 neg

/-- `VLC_R31_L1`: code `0000000000011011s` (R48). -/
def execVlcR31L1 (neg : Bool) (s : State) : Host.Outcome State Fault Refusal :=
  s.vlcElement 17 31 1 neg

/-- `VLC_R30_L1`: code `0000000000011100s` (R48). -/
def execVlcR30L1 (neg : Bool) (s : State) : Host.Outcome State Fault Refusal :=
  s.vlcElement 17 30 1 neg

/-- `VLC_R29_L1`: code `0000000000011101s` (R48). -/
def execVlcR29L1 (neg : Bool) (s : State) : Host.Outcome State Fault Refusal :=
  s.vlcElement 17 29 1 neg

/-- `VLC_R28_L1`: code `0000000000011110s` (R48). -/
def execVlcR28L1 (neg : Bool) (s : State) : Host.Outcome State Fault Refusal :=
  s.vlcElement 17 28 1 neg

/-- `VLC_R27_L1`: code `0000000000011111s` (R48). -/
def execVlcR27L1 (neg : Bool) (s : State) : Host.Outcome State Fault Refusal :=
  s.vlcElement 17 27 1 neg

end Sys2Proof.Machine
end

