-- ==== Sys2Proof/Machine/Dispatch.lean ====
section
/-! DEFINITION. One arm per instruction: the direct call of its meaning. -/

namespace Sys2Proof.Machine

/-- Execute one instruction. -/
def exec (i : Instr) (s : State) : Host.Outcome State Fault Refusal :=
  match i with
  | .dcGlobal d => Sys2Proof.Machine.execDcGlobal d s
  | .dcPerBlock q d => Sys2Proof.Machine.execDcPerBlock q d s
  | .vlcR0L1 neg => Sys2Proof.Machine.execVlcR0L1 neg s
  | .vlcR1L1 neg => Sys2Proof.Machine.execVlcR1L1 neg s
  | .vlcR0L2 neg => Sys2Proof.Machine.execVlcR0L2 neg s
  | .vlcR2L1 neg => Sys2Proof.Machine.execVlcR2L1 neg s
  | .vlcR0L3 neg => Sys2Proof.Machine.execVlcR0L3 neg s
  | .vlcR4L1 neg => Sys2Proof.Machine.execVlcR4L1 neg s
  | .vlcR3L1 neg => Sys2Proof.Machine.execVlcR3L1 neg s
  | .vlcR7L1 neg => Sys2Proof.Machine.execVlcR7L1 neg s
  | .vlcR6L1 neg => Sys2Proof.Machine.execVlcR6L1 neg s
  | .vlcR1L2 neg => Sys2Proof.Machine.execVlcR1L2 neg s
  | .vlcR5L1 neg => Sys2Proof.Machine.execVlcR5L1 neg s
  | .vlcR2L2 neg => Sys2Proof.Machine.execVlcR2L2 neg s
  | .vlcR9L1 neg => Sys2Proof.Machine.execVlcR9L1 neg s
  | .vlcR0L4 neg => Sys2Proof.Machine.execVlcR0L4 neg s
  | .vlcR8L1 neg => Sys2Proof.Machine.execVlcR8L1 neg s
  | .vlcR13L1 neg => Sys2Proof.Machine.execVlcR13L1 neg s
  | .vlcR0L6 neg => Sys2Proof.Machine.execVlcR0L6 neg s
  | .vlcR12L1 neg => Sys2Proof.Machine.execVlcR12L1 neg s
  | .vlcR11L1 neg => Sys2Proof.Machine.execVlcR11L1 neg s
  | .vlcR3L2 neg => Sys2Proof.Machine.execVlcR3L2 neg s
  | .vlcR1L3 neg => Sys2Proof.Machine.execVlcR1L3 neg s
  | .vlcR0L5 neg => Sys2Proof.Machine.execVlcR0L5 neg s
  | .vlcR10L1 neg => Sys2Proof.Machine.execVlcR10L1 neg s
  | .vlcR16L1 neg => Sys2Proof.Machine.execVlcR16L1 neg s
  | .vlcR5L2 neg => Sys2Proof.Machine.execVlcR5L2 neg s
  | .vlcR0L7 neg => Sys2Proof.Machine.execVlcR0L7 neg s
  | .vlcR2L3 neg => Sys2Proof.Machine.execVlcR2L3 neg s
  | .vlcR1L4 neg => Sys2Proof.Machine.execVlcR1L4 neg s
  | .vlcR15L1 neg => Sys2Proof.Machine.execVlcR15L1 neg s
  | .vlcR14L1 neg => Sys2Proof.Machine.execVlcR14L1 neg s
  | .vlcR4L2 neg => Sys2Proof.Machine.execVlcR4L2 neg s
  | .vlcR0L11 neg => Sys2Proof.Machine.execVlcR0L11 neg s
  | .vlcR8L2 neg => Sys2Proof.Machine.execVlcR8L2 neg s
  | .vlcR4L3 neg => Sys2Proof.Machine.execVlcR4L3 neg s
  | .vlcR0L10 neg => Sys2Proof.Machine.execVlcR0L10 neg s
  | .vlcR2L4 neg => Sys2Proof.Machine.execVlcR2L4 neg s
  | .vlcR7L2 neg => Sys2Proof.Machine.execVlcR7L2 neg s
  | .vlcR21L1 neg => Sys2Proof.Machine.execVlcR21L1 neg s
  | .vlcR20L1 neg => Sys2Proof.Machine.execVlcR20L1 neg s
  | .vlcR0L9 neg => Sys2Proof.Machine.execVlcR0L9 neg s
  | .vlcR19L1 neg => Sys2Proof.Machine.execVlcR19L1 neg s
  | .vlcR18L1 neg => Sys2Proof.Machine.execVlcR18L1 neg s
  | .vlcR1L5 neg => Sys2Proof.Machine.execVlcR1L5 neg s
  | .vlcR3L3 neg => Sys2Proof.Machine.execVlcR3L3 neg s
  | .vlcR0L8 neg => Sys2Proof.Machine.execVlcR0L8 neg s
  | .vlcR6L2 neg => Sys2Proof.Machine.execVlcR6L2 neg s
  | .vlcR17L1 neg => Sys2Proof.Machine.execVlcR17L1 neg s
  | .vlcR10L2 neg => Sys2Proof.Machine.execVlcR10L2 neg s
  | .vlcR9L2 neg => Sys2Proof.Machine.execVlcR9L2 neg s
  | .vlcR5L3 neg => Sys2Proof.Machine.execVlcR5L3 neg s
  | .vlcR3L4 neg => Sys2Proof.Machine.execVlcR3L4 neg s
  | .vlcR2L5 neg => Sys2Proof.Machine.execVlcR2L5 neg s
  | .vlcR1L7 neg => Sys2Proof.Machine.execVlcR1L7 neg s
  | .vlcR1L6 neg => Sys2Proof.Machine.execVlcR1L6 neg s
  | .vlcR0L15 neg => Sys2Proof.Machine.execVlcR0L15 neg s
  | .vlcR0L14 neg => Sys2Proof.Machine.execVlcR0L14 neg s
  | .vlcR0L13 neg => Sys2Proof.Machine.execVlcR0L13 neg s
  | .vlcR0L12 neg => Sys2Proof.Machine.execVlcR0L12 neg s
  | .vlcR26L1 neg => Sys2Proof.Machine.execVlcR26L1 neg s
  | .vlcR25L1 neg => Sys2Proof.Machine.execVlcR25L1 neg s
  | .vlcR24L1 neg => Sys2Proof.Machine.execVlcR24L1 neg s
  | .vlcR23L1 neg => Sys2Proof.Machine.execVlcR23L1 neg s
  | .vlcR22L1 neg => Sys2Proof.Machine.execVlcR22L1 neg s
  | .vlcR0L31 neg => Sys2Proof.Machine.execVlcR0L31 neg s
  | .vlcR0L30 neg => Sys2Proof.Machine.execVlcR0L30 neg s
  | .vlcR0L29 neg => Sys2Proof.Machine.execVlcR0L29 neg s
  | .vlcR0L28 neg => Sys2Proof.Machine.execVlcR0L28 neg s
  | .vlcR0L27 neg => Sys2Proof.Machine.execVlcR0L27 neg s
  | .vlcR0L26 neg => Sys2Proof.Machine.execVlcR0L26 neg s
  | .vlcR0L25 neg => Sys2Proof.Machine.execVlcR0L25 neg s
  | .vlcR0L24 neg => Sys2Proof.Machine.execVlcR0L24 neg s
  | .vlcR0L23 neg => Sys2Proof.Machine.execVlcR0L23 neg s
  | .vlcR0L22 neg => Sys2Proof.Machine.execVlcR0L22 neg s
  | .vlcR0L21 neg => Sys2Proof.Machine.execVlcR0L21 neg s
  | .vlcR0L20 neg => Sys2Proof.Machine.execVlcR0L20 neg s
  | .vlcR0L19 neg => Sys2Proof.Machine.execVlcR0L19 neg s
  | .vlcR0L18 neg => Sys2Proof.Machine.execVlcR0L18 neg s
  | .vlcR0L17 neg => Sys2Proof.Machine.execVlcR0L17 neg s
  | .vlcR0L16 neg => Sys2Proof.Machine.execVlcR0L16 neg s
  | .vlcR0L40 neg => Sys2Proof.Machine.execVlcR0L40 neg s
  | .vlcR0L39 neg => Sys2Proof.Machine.execVlcR0L39 neg s
  | .vlcR0L38 neg => Sys2Proof.Machine.execVlcR0L38 neg s
  | .vlcR0L37 neg => Sys2Proof.Machine.execVlcR0L37 neg s
  | .vlcR0L36 neg => Sys2Proof.Machine.execVlcR0L36 neg s
  | .vlcR0L35 neg => Sys2Proof.Machine.execVlcR0L35 neg s
  | .vlcR0L34 neg => Sys2Proof.Machine.execVlcR0L34 neg s
  | .vlcR0L33 neg => Sys2Proof.Machine.execVlcR0L33 neg s
  | .vlcR0L32 neg => Sys2Proof.Machine.execVlcR0L32 neg s
  | .vlcR1L14 neg => Sys2Proof.Machine.execVlcR1L14 neg s
  | .vlcR1L13 neg => Sys2Proof.Machine.execVlcR1L13 neg s
  | .vlcR1L12 neg => Sys2Proof.Machine.execVlcR1L12 neg s
  | .vlcR1L11 neg => Sys2Proof.Machine.execVlcR1L11 neg s
  | .vlcR1L10 neg => Sys2Proof.Machine.execVlcR1L10 neg s
  | .vlcR1L9 neg => Sys2Proof.Machine.execVlcR1L9 neg s
  | .vlcR1L8 neg => Sys2Proof.Machine.execVlcR1L8 neg s
  | .vlcR1L18 neg => Sys2Proof.Machine.execVlcR1L18 neg s
  | .vlcR1L17 neg => Sys2Proof.Machine.execVlcR1L17 neg s
  | .vlcR1L16 neg => Sys2Proof.Machine.execVlcR1L16 neg s
  | .vlcR1L15 neg => Sys2Proof.Machine.execVlcR1L15 neg s
  | .vlcR6L3 neg => Sys2Proof.Machine.execVlcR6L3 neg s
  | .vlcR16L2 neg => Sys2Proof.Machine.execVlcR16L2 neg s
  | .vlcR15L2 neg => Sys2Proof.Machine.execVlcR15L2 neg s
  | .vlcR14L2 neg => Sys2Proof.Machine.execVlcR14L2 neg s
  | .vlcR13L2 neg => Sys2Proof.Machine.execVlcR13L2 neg s
  | .vlcR12L2 neg => Sys2Proof.Machine.execVlcR12L2 neg s
  | .vlcR11L2 neg => Sys2Proof.Machine.execVlcR11L2 neg s
  | .vlcR31L1 neg => Sys2Proof.Machine.execVlcR31L1 neg s
  | .vlcR30L1 neg => Sys2Proof.Machine.execVlcR30L1 neg s
  | .vlcR29L1 neg => Sys2Proof.Machine.execVlcR29L1 neg s
  | .vlcR28L1 neg => Sys2Proof.Machine.execVlcR28L1 neg s
  | .vlcR27L1 neg => Sys2Proof.Machine.execVlcR27L1 neg s
  | .eob => Sys2Proof.Machine.execEob s
  | .esc r l => Sys2Proof.Machine.execEsc r l s
  | .trailer => Sys2Proof.Machine.execTrailer s
  | .decReset => Sys2Proof.Machine.execDecReset s
  | .decRegRead n => Sys2Proof.Machine.execDecRegRead n s
  | .brInit order offset data => Sys2Proof.Machine.execBrInit order offset data s
  | .brReadU n => Sys2Proof.Machine.execBrReadU n s
  | .brReadS n => Sys2Proof.Machine.execBrReadS n s
  | .brPos => Sys2Proof.Machine.execBrPos s
  | .cbDecode => Sys2Proof.Machine.execCbDecode s
  | .hdrParse => Sys2Proof.Machine.execHdrParse s
  | .decStart qmode qscale mbtotal => Sys2Proof.Machine.execDecStart qmode qscale mbtotal s
  | .decStep => Sys2Proof.Machine.execDecStep s
  | .decSkipMb => Sys2Proof.Machine.execDecSkipMb s
  | .decSkipPadding => Sys2Proof.Machine.execDecSkipPadding s
  | .encReset => Sys2Proof.Machine.execEncReset s
  | .encRegRead n => Sys2Proof.Machine.execEncRegRead n s
  | .bwInit order => Sys2Proof.Machine.execBwInit order s
  | .bwWrite value n => Sys2Proof.Machine.execBwWrite value n s
  | .bwPos => Sys2Proof.Machine.execBwPos s
  | .bwFlush => Sys2Proof.Machine.execBwFlush s
  | .cbLookup run level => Sys2Proof.Machine.execCbLookup run level s
  | .encStart mbtotal version => Sys2Proof.Machine.execEncStart mbtotal version s
  | .encPut w => Sys2Proof.Machine.execEncPut w s
  | .encFinish => Sys2Proof.Machine.execEncFinish s

end Sys2Proof.Machine
end

