-- ==== Sys2Proof/Machine/Step.lean ====
section
/-! DEFINITION. One step of the block: the command that stands first on the command port is decoded and performed
whole (R8, R36, R114). The stream elements run inside the commands that read them (R77, R72, R83). -/

namespace Sys2Proof.Machine

/-- One step. With no command on the port there is no step (R114): refused by name. A command word that R55 does
not list raises on the unit it selects (R56). -/
def step (s : State) : Host.Outcome State Fault Refusal :=
  match s.port.pending with
  | [] => .refused .noCommand
  | c :: _ =>
    match decodeCommand c with
    | .ok i => exec i s
    | .error _ => s.illegalCommand c.cmd

/-- The state with command `c` as the next one on the port. -/
def State.issue (s : State) (c : Command) : State :=
  { s with port := { s.port with pending := c :: s.port.pending } }

/-- The decode engine at an AC position of a one-macroblock frame with the given LE16 bytes in `BUF` and the cursor
at their first bit. -/
def Dec.atStream (d : Dec) (bytes : List Byte) : Dec :=
  { d with
    order := .le16
    buf := Mem.ofBytes bytes
    buflen := BitVec.ofNat 32 bytes.length
    bitpos := 0
    phase := .readingAc
    qscale := 1
    mbtotal := 1 }

/-- The state in which the next step runs exactly the instruction whose table number is `w`: a command word stands
on the command port with zero operands; a stream element stands at the cursor of an engine that is at an AC
position, with `DEC_STEP` on the port (assumption logs 11 and 12). -/
def State.withFetchWord (s : State) (nbits w : Nat) : State :=
  let streamed : State :=
    (s.withDec (s.dec.atStream (tableBytes nbits w))).issue ⟨0x09, 0, 0, 0, []⟩
  if nbits ≤ 8 then
    match decodeCommand (tableCommand w) with
    | .ok _ => s.issue (tableCommand w)
    | .error _ => streamed
  else streamed

end Sys2Proof.Machine
end

