-- ==== Sys2Proof/Safety.lean ====
section
/-! DEFINITION. What counts as a good state: the invariants of R13 and R17 with the block structure of R84, and
the canonical form of the memories; and what counts as a good outcome. -/

namespace Sys2Proof.Machine

/-- One word of the block scan of R84: between blocks a DC word opens a block (`dcOk` says which words may), inside
a block any word but `EOD_WORD` stays in it and `EOD_WORD` closes it. The number counts the closed blocks. -/
def scanWord (dcOk : Code → Bool) (st : Option (Nat × Bool)) (w : Code) : Option (Nat × Bool) :=
  match st with
  | none => none
  | some (n, false) => if isEod w || !dcOk w then none else some (n, true)
  | some (n, true) => if isEod w then some (n + 1, false) else some (n, true)

/-- The blocks of a list of code words: how many are closed, and whether one is open; none where the list has not
the structure of R84. -/
def scanBlocks (dcOk : Code → Bool) (ws : List Code) : Option (Nat × Bool) :=
  ws.foldl (scanWord dcOk) (some (0, false))

/-- A DC word carries the frame's qscale in GLOBAL mode (R42, R84). -/
def Dec.dcWordOk (d : Dec) (w : Code) : Bool :=
  d.qmode == .perBlock || topField w == d.qscale

/-- A DC word taken by the encoder carries the frame's one qscale (R87). -/
def Enc.dcWordOk (e : Enc) (w : Code) : Bool :=
  topField w == e.qscale

/-- The blocks closed before the current one (R80, R89). -/
def blockIndex (mb : BitVec 16) (blk : BitVec 3) : Nat :=
  Config.blocksPerMb * mb.toNat + blk.toNat

/-- What the emitted words are in each phase (R78, R79, R80, R84). -/
def Dec.outputOk (d : Dec) : Prop :=
  match d.phase with
  | .idle => d.out = []
  | .blockStart => scanBlocks d.dcWordOk d.out = some (blockIndex d.mb d.blk, false)
  | .readingAc => scanBlocks d.dcWordOk d.out = some (blockIndex d.mb d.blk, true)
  | .blockDone => scanBlocks d.dcWordOk d.out = some (blockIndex d.mb d.blk + 1, false)
  | .frameDone => scanBlocks d.dcWordOk d.out = some (blockIndex d.mb d.blk, false)
  | .fault => ∃ r, scanBlocks d.dcWordOk d.out = some r

/-- A frame has been started and is not at fault (R12). -/
def Dec.started (d : Dec) : Prop :=
  d.phase = .blockStart ∨ d.phase = .readingAc ∨ d.phase = .blockDone ∨ d.phase = .frameDone

/-- The header latch: all zero, or the fields of a header that `HdrValid` accepts (R95, R96). -/
def Dec.latchOk (d : Dec) : Prop :=
  if d.hdrValid then
    0 ≤ d.hdrHint.toInt ∧ 1 ≤ d.hdrQscale.toInt ∧ d.hdrQscale.toInt ≤ 63 ∧ d.hdrVersion = Config.version
  else d.hdrHint = 0 ∧ d.hdrQscale = 0 ∧ d.hdrVersion = 0

/-- The invariants of DEC (R13 items 1 to 5; item 3 as assumption log 15 reads it), and what goes with them. -/
structure Dec.Inv (d : Dec) : Prop where
  buf_wf : d.buf.wf = true
  buf_bound : ∀ a, d.buflen.toNat ≤ a → d.buf.read a = Mem.fill
  buflen_small : 8 * d.buflen.toNat < 2 ^ 32
  cursor : d.bitpos.toNat ≤ d.nbits.toNat
  blk_range : d.blk.toNat ≤ 5
  mb_le : d.mb.toNat ≤ d.mbtotal.toNat
  mb_eq : d.mb = d.mbtotal → d.phase = .idle ∨ d.phase = .frameDone ∨ d.phase = .fault
  frame_done : d.phase = .frameDone → d.mb = d.mbtotal ∧ d.blk = 0
  count : d.codecount = BitVec.ofNat 32 d.out.length
  qscale_range : d.started → d.qmode = .global → 1 ≤ d.qscale.toNat
  err_iff : d.err ≠ .none ↔ d.phase = .fault
  err_never : d.err ≠ .tooMuchEnergy
  padwarn_padding : d.padwarn = true → d.paddone = true
  padding_phase : d.paddone = true → d.phase = .frameDone ∨ d.phase = .fault
  last_valid : d.lastValid = !d.out.isEmpty
  last_word : d.lastWord = d.out.getLast?.getD 0
  latch : d.latchOk
  output : d.outputOk

/-- What the taken words are in each phase (R87-R89). -/
def Enc.inputOk (e : Enc) : Prop :=
  match e.phase with
  | .idle => e.taken = []
  | .blockStart => scanBlocks e.dcWordOk e.taken = some (blockIndex e.mb e.blk, false)
  | .inBlock => scanBlocks e.dcWordOk e.taken = some (blockIndex e.mb e.blk, true)
  | .frameDone => scanBlocks e.dcWordOk e.taken = some (blockIndex e.mb e.blk, false)
  | .finished => scanBlocks e.dcWordOk e.taken = some (blockIndex e.mb e.blk, false)
  | .fault => ∃ r, scanBlocks e.dcWordOk e.taken = some r

/-- The invariants of ENC (R16, R17), and what goes with them. -/
structure Enc.Inv (e : Enc) : Prop where
  obuf_wf : e.obuf.wf = true
  wbits_len : e.wbits.toNat = e.wstream.length
  blk_range : e.blk.toNat ≤ 5
  mb_le : e.mb.toNat ≤ e.mbtotal.toNat
  mb_eq : e.mb = e.mbtotal → e.phase = .idle ∨ e.phase = .frameDone ∨ e.phase = .finished ∨ e.phase = .fault
  frame_done : e.phase = .frameDone ∨ e.phase = .finished → e.mb = e.mbtotal ∧ e.blk = 0 ∧ 0 < e.mbtotal.toNat
  count : e.codecount.toNat = e.taken.length
  two_bits_each : 2 * e.taken.length ≤ e.wstream.length
  qscale_none : e.qvalid = false → e.taken = [] ∧ e.qscale = 0
  qscale_range : e.qvalid = true → 1 ≤ e.qscale.toNat
  err_iff : e.err ≠ .none ↔ e.phase = .fault
  err_never : e.err ≠ .tooMuchEnergy
  input : e.inputOk

/-- The invariant of the block. -/
structure State.Inv (s : State) : Prop where
  dec : s.dec.Inv
  enc : s.enc.Inv

/-- A good outcome: no fault of the machine. (The block's own errors are states with `PHASE = FAULT`.) -/
def noMachineFault (o : Host.Outcome State Fault Refusal) : Prop :=
  ∀ f, o ≠ .fault f

end Sys2Proof.Machine
end

