-- ==== Sys2Proof/Certificates/Slice0/Obligations.lean ====
section
/-! DEFINITION. The statements for the provers, from the numbered rules of spec/. A name under `Claims` is a
helper of a statement; every obligation is `Obligations.<Name>`. A next state is given whole, as a record
update, so that what it does not name is unchanged (the frame). -/

open Sys2Proof Sys2Proof.Machine

/-! ## Helpers -/

/-- The code word of a table row: `pack(run, +level)` or `pack(run, -level)`, as a number (R44, R48). -/
def Claims.rowWord (run level : Nat) (neg : Bool) : Code :=
  BitVec.ofNat 16 (run * 1024 + if neg then 1024 - level else level)

/-- `Emit(w)` after `n` consumed bits: all that changes in DEC (R20, R57). -/
def Claims.emitAfter (d : Dec) (n : Nat) (w : Code) : Dec :=
  { d with
    bitpos := d.bitpos + BitVec.ofNat 32 n
    lastWord := w
    lastValid := true
    codecount := d.codecount + 1
    out := d.out ++ [w] }

/-- The response `(OK, X = x, Y = y)`. -/
def Claims.ok2 (x y : Word32) : Response := ⟨.ok, some x, some y, none⟩

/-- The response `(OK, X = x)`. -/
def Claims.ok1 (x : Word32) : Response := ⟨.ok, some x, none, none⟩

/-- The response `(OK)`. -/
def Claims.ok0 : Response := ⟨.ok, none, none, none⟩

/-- The response `(st)` with no result fields. -/
def Claims.bare (st : Status) : Response := ⟨st, none, none, none⟩

/-- The next state of a command that leaves DEC as `d` and answers `r`. -/
def Claims.decNext (s : State) (d : Dec) (r : Response) : Host.Outcome State Fault Refusal :=
  .next { s with dec := d, port := ⟨s.port.pending.tail, some r⟩ }

/-- The next state of a command that leaves ENC as `e` and answers `r`. -/
def Claims.encNext (s : State) (e : Enc) (r : Response) : Host.Outcome State Fault Refusal :=
  .next { s with enc := e, port := ⟨s.port.pending.tail, some r⟩ }

/-- The raise of an error in DEC (R104): `ERR`, `PHASE` and the response, and nothing else. -/
def Claims.decRaises (s : State) (er : ErrCode) (st : Status) : Host.Outcome State Fault Refusal :=
  Claims.decNext s { s.dec with err := er, phase := .fault } (Claims.bare st)

/-- The raise of an error in ENC (R104). -/
def Claims.encRaises (s : State) (er : ErrCode) (st : Status) : Host.Outcome State Fault Refusal :=
  Claims.encNext s { s.enc with err := er, phase := .fault } (Claims.bare st)

/-- `n` bits are there at the cursor (R57). -/
def Claims.bitsThere (d : Dec) (n : Nat) : Prop := d.bitpos.toNat + n ≤ d.nbits.toNat

/-- The unit a command selects: bit 4 of its command word (R54); a stream element belongs to DEC. -/
def Claims.isEncCommand (i : Instr) : Bool :=
  match encode i with
  | .stream _ => false
  | .command c => c.cmd.getLsbD 4

/-- The entries of the codebook (R19, R48). -/
def Claims.entries : List Entry := Config.codebook.entries

/-- The commands one after another, each completing; none where one does not. -/
def Claims.runAll : List Instr → State → Option State
  | [], s => some s
  | i :: is, s =>
    match exec i s with
    | .next t => Claims.runAll is t
    | .fault _ => none
    | .refused _ => none

/-! ## Encoding -/

/-- Decoding the encoding of a well-formed instruction gives it back, with every operand, and leaves the bits that
follow a stream element. -/
def Obligations.DecodeOfEncodeIsIdentity : Prop :=
  ∀ i : Instr, i.wellFormed = true →
    match encode i with
    | .stream b => i.position ≠ .command ∧ ∀ rest : Bits, decodeStream i.position (b ++ rest) = .ok (i, rest)
    | .command c => i.position = .command ∧ decodeCommand c = .ok i

/-- What the stream decoder reads is exactly an encoding: no two instructions of one position share bits, and nothing
but a well-formed instruction's own bits is consumed. -/
def Obligations.EncodeOfDecodeIsIdentity : Prop :=
  ∀ (pos : Position) (b rest : Bits) (i : Instr), decodeStream pos b = .ok (i, rest) →
    i.position = pos ∧ i.wellFormed = true ∧ ∃ code : Bits, encode i = .stream code ∧ b = code ++ rest

/-- The command codes and operand fields of R55, each whatever the other operand bits are ("ignored"). -/
def Obligations.CommandCodesDecode : Prop :=
  ∀ (a b c : Word32) (data : List Byte),
    decodeCommand ⟨0x00, a, b, c, data⟩ = .ok .decReset ∧
    decodeCommand ⟨0x01, a, b, c, data⟩ = .ok (.decRegRead (a.extractLsb' 0 8)) ∧
    decodeCommand ⟨0x02, a, b, c, data⟩ = .ok (.brInit (if a.getLsbD 0 then .be16 else .le16) b data) ∧
    decodeCommand ⟨0x03, a, b, c, data⟩ = .ok (.brReadU (a.extractLsb' 0 6)) ∧
    decodeCommand ⟨0x04, a, b, c, data⟩ = .ok (.brReadS (a.extractLsb' 0 6)) ∧
    decodeCommand ⟨0x05, a, b, c, data⟩ = .ok .brPos ∧
    decodeCommand ⟨0x06, a, b, c, data⟩ = .ok .cbDecode ∧
    decodeCommand ⟨0x07, a, b, c, data⟩ = .ok .hdrParse ∧
    decodeCommand ⟨0x08, a, b, c, data⟩ =
      .ok (.decStart (if a.getLsbD 0 then .perBlock else .global) (b.extractLsb' 0 6) (c.extractLsb' 0 16)) ∧
    decodeCommand ⟨0x09, a, b, c, data⟩ = .ok .decStep ∧
    decodeCommand ⟨0x0A, a, b, c, data⟩ = .ok .decSkipMb ∧
    decodeCommand ⟨0x0B, a, b, c, data⟩ = .ok .decSkipPadding ∧
    decodeCommand ⟨0x10, a, b, c, data⟩ = .ok .encReset ∧
    decodeCommand ⟨0x11, a, b, c, data⟩ = .ok (.encRegRead (a.extractLsb' 0 8)) ∧
    decodeCommand ⟨0x12, a, b, c, data⟩ = .ok (.bwInit (if a.getLsbD 0 then .be16 else .le16)) ∧
    decodeCommand ⟨0x13, a, b, c, data⟩ = .ok (.bwWrite a (b.extractLsb' 0 6)) ∧
    decodeCommand ⟨0x14, a, b, c, data⟩ = .ok .bwPos ∧
    decodeCommand ⟨0x15, a, b, c, data⟩ = .ok .bwFlush ∧
    decodeCommand ⟨0x16, a, b, c, data⟩ = .ok (.cbLookup (a.extractLsb' 0 6) (b.extractLsb' 0 10)) ∧
    decodeCommand ⟨0x17, a, b, c, data⟩ = .ok (.encStart (c.extractLsb' 0 16) (b.extractLsb' 0 16)) ∧
    decodeCommand ⟨0x18, a, b, c, data⟩ = .ok (.encPut (a.extractLsb' 0 16)) ∧
    decodeCommand ⟨0x19, a, b, c, data⟩ = .ok .encFinish

/-- Words written out bit by bit from the spec's encodings decode to the instructions they stand for (R42, R43,
R45-R48; vectors CB1, CB3, CB6 and E7 of 95_test_vectors.md). -/
def Obligations.SpecWordsDecode : Prop :=
  decodeStream .dcGlobal [false, false, false, false, false, false, false, true, false, true] =
    .ok (.dcGlobal 5, []) ∧
  decodeStream .dcPerBlock [false, false, false, true, false, false, false, false, false, false, false, false, false,
    true, false, true] = .ok (.dcPerBlock 4 5, []) ∧
  decodeStream .ac [true, true, false] = .ok (.vlcR0L1 false, []) ∧
  decodeStream .ac [false, true, false, true, true] = .ok (.vlcR2L1 true, []) ∧
  decodeStream .ac [false, false, false, false, false, false, false, false, false, false, false, true, false, false,
    false, false, true] = .ok (.vlcR1L18 true, []) ∧
  decodeStream .ac [true, false] = .ok (.eob, []) ∧
  decodeStream .ac [false, false, false, false, false, true, true, true, true, true, true, true, false, true, true,
    true, true, true, true, true, true, true] = .ok (.esc 63 511, []) ∧
  decodeStream .trailer [false, true, true, true, true, true, true, true, true, true, false] = .ok (.trailer, [])

/-- Which command words are illegal, and that each raises on the unit that `CMD[4]` selects (R56); a unit in `FAULT`
answers `(ERR)` and changes nothing, as for every other command that its gate does not accept (R105, R111). -/
def Obligations.IllegalCommandWordsRaise : Prop :=
  (∀ c : Command,
    ((0x0C ≤ c.cmd.toNat ∧ c.cmd.toNat ≤ 0x0F) ∨ (0x1A ≤ c.cmd.toNat ∧ c.cmd.toNat ≤ 0x1F) ∨ c.cmd.toNat / 32 ≠ 0) ↔
      ¬ ∃ i, decodeCommand c = .ok i) ∧
  (∀ (s : State) (c : Command) (cs : List Command), s.port.pending = c :: cs →
    ((0x0C ≤ c.cmd.toNat ∧ c.cmd.toNat ≤ 0x0F) ∨ (0x1A ≤ c.cmd.toNat ∧ c.cmd.toNat ≤ 0x1F) ∨ c.cmd.toNat / 32 ≠ 0) →
    (c.cmd.getLsbD 4 = false → s.dec.phase ≠ .fault →
      step s = Claims.decRaises s .programmingFault .programmingFault) ∧
    (c.cmd.getLsbD 4 = true → s.enc.phase ≠ .fault →
      step s = Claims.encRaises s .programmingFault .programmingFault) ∧
    (c.cmd.getLsbD 4 = false → s.dec.phase = .fault →
      step s = Claims.decNext s s.dec (Claims.bare s.dec.err.status)) ∧
    (c.cmd.getLsbD 4 = true → s.enc.phase = .fault →
      step s = Claims.encNext s s.enc (Claims.bare s.enc.err.status)))

/-! ## The step -/

/-- A step performs the instruction that the command first on the port decodes to, and a step that answers a next state
has taken that command, and no other, off the port and left one response. With no command there is no step (R114).
That the commands stand in a list is the model's choice (assumption log 1), and so is the refusal by name on an
empty one (assumption log 2). -/
def Obligations.StepRunsTheDecodedCommand : Prop :=
  (∀ (s : State) (c : Command) (cs : List Command) (i : Instr), s.port.pending = c :: cs →
    decodeCommand c = .ok i → step s = exec i s) ∧
  (∀ (s t : State) (c : Command) (cs : List Command), s.port.pending = c :: cs → step s = .next t →
    ∃ r, t.port = ⟨cs, some r⟩) ∧
  (∀ s : State, s.port.pending = [] → step s = .refused .noCommand)

/-- An instruction completes with exactly one response ("A command returns one response", R7, R114), and the port moves
on to the next command. That the port is a list which a completion shortens by one is the model's choice (assumption
log 1), and so is that a stream element completes the command it stands under (assumption log 10). -/
def Obligations.EveryInstructionAnswersOnce : Prop :=
  ∀ (i : Instr) (s t : State), exec i s = .next t →
    t.port.pending = s.port.pending.tail ∧ ∃ r, t.port.resp = some r

/-- `DEC_STEP` in a phase that reads a stream element performs exactly the element that the decoder reads from the
bits at the cursor: the codebook's walk and the opcode table's decoder agree on every stream, errors included
(R38, R78, R79, R107). What an element's meaning is with no command, or another command, on the port is the model's
choice (assumption log 10). -/
def Obligations.DecStepRunsTheElementAtTheCursor : Prop :=
  ∀ (s : State) (pos : Position), s.underCbDecode = false →
    ((s.dec.phase = .readingAc ∧ pos = .ac) ∨
      (s.dec.phase = .blockStart ∧ s.dec.qmode = .global ∧ pos = .dcGlobal) ∨
      (s.dec.phase = .blockStart ∧ s.dec.qmode = .perBlock ∧ pos = .dcPerBlock)) →
    exec .decStep s =
      match decodeStream pos s.dec.remaining with
      | .ok (i, _) => exec i s
      | .error .truncated => Claims.decRaises s .endOfStream .endOfStream
      | .error _ => Claims.decRaises s .readCorruption .readCorruption

/-- The same for `CB_DECODE`, which reads an AC code in any phase but `FAULT` (R72). -/
def Obligations.CbDecodeRunsTheElementAtTheCursor : Prop :=
  ∀ s : State, s.underCbDecode = true → s.dec.phase ≠ .fault →
    exec .cbDecode s =
      match decodeStream .ac s.dec.remaining with
      | .ok (i, _) => exec i s
      | .error .truncated => Claims.decRaises s .endOfStream .endOfStream
      | .error _ => Claims.decRaises s .readCorruption .readCorruption

/-! ## The reader -/

/-- `BR_INIT`: its two faults, and the reader it constructs over the bytes, in every phase (R60). -/
def Obligations.BrInitConstructsTheReader : Prop :=
  (∀ (a b c : Word32) (data : List Byte),
    decodeCommand ⟨0x02, a, b, c, data⟩ = .ok (.brInit (if a.getLsbD 0 then .be16 else .le16) b data)) ∧
  ∀ (s : State) (order : Order) (offset : Word32) (data : List Byte),
    (Config.bufMax.val < data.length →
      exec (.brInit order offset data) s = Claims.decRaises s .programmingFault .programmingFault) ∧
    (data.length ≤ Config.bufMax.val → 16 * (data.length / 2) < offset.toNat →
      exec (.brInit order offset data) s = Claims.decRaises s .programmingFault .programmingFault) ∧
    (data.length ≤ Config.bufMax.val → offset.toNat ≤ 16 * (data.length / 2) →
      ∃ buf : Mem, buf.wf = true ∧ (∀ (i : Nat) (h : i < data.length), buf.read i = data[i]) ∧
        (BitVec.ofNat 32 data.length).toNat = data.length ∧
        exec (.brInit order offset data) s =
          Claims.decNext s
            { order := order, qmode := .global, buflen := BitVec.ofNat 32 data.length, bitpos := offset,
              phase := .idle, qscale := 0, mbtotal := 0, mb := 0, blk := 0, codecount := 0, esczero := 0,
              padwarn := false, paddone := false, err := .none, lastWord := 0, lastValid := false, hdrHint := 0,
              hdrQscale := 0, hdrVersion := 0, hdrValid := false, buf := buf, out := [] }
            Claims.ok0)

/-- `BR_READU` and `BR_READS`: the width check, the end of the stream, and the value that the next `n` bits are, first
bit most significant, unsigned or sign-extended; only the cursor moves, by exactly `n` (R61, R62). -/
def Obligations.RawReadsReturnTheBits : Prop :=
  (∀ (a b c : Word32) (data : List Byte),
    decodeCommand ⟨0x03, a, b, c, data⟩ = .ok (.brReadU (a.extractLsb' 0 6)) ∧
    decodeCommand ⟨0x04, a, b, c, data⟩ = .ok (.brReadS (a.extractLsb' 0 6))) ∧
  ∀ (s : State) (n : BitVec 6), s.dec.phase ≠ .fault →
    (n.toNat < 1 ∨ 32 < n.toNat →
      exec (.brReadU n) s = Claims.decRaises s .programmingFault .programmingFault ∧
      exec (.brReadS n) s = Claims.decRaises s .programmingFault .programmingFault) ∧
    (1 ≤ n.toNat → n.toNat ≤ 32 → ¬ Claims.bitsThere s.dec n.toNat →
      exec (.brReadU n) s = Claims.decRaises s .endOfStream .endOfStream ∧
      exec (.brReadS n) s = Claims.decRaises s .endOfStream .endOfStream) ∧
    (1 ≤ n.toNat → n.toNat ≤ 32 → Claims.bitsThere s.dec n.toNat →
      ∃ v : Nat, v < 2 ^ n.toNat ∧
        (∀ i : Nat, i < n.toNat → v.testBit (n.toNat - 1 - i) = s.dec.streamBit (s.dec.bitpos.toNat + i)) ∧
        exec (.brReadU n) s =
          Claims.decNext s { s.dec with bitpos := s.dec.bitpos + BitVec.ofNat 32 n.toNat }
            (Claims.ok1 (BitVec.ofNat 32 v)) ∧
        exec (.brReadS n) s =
          Claims.decNext s { s.dec with bitpos := s.dec.bitpos + BitVec.ofNat 32 n.toNat }
            (Claims.ok1 (BitVec.ofInt 32 (if v.testBit (n.toNat - 1) then (v : Int) - 2 ^ n.toNat else v))))

/-- `BR_POS` and `BW_POS` report the position in bits and in 16-bit words and change nothing (R63, R66). -/
def Obligations.PositionsAreReported : Prop :=
  (∀ (a b c : Word32) (data : List Byte),
    decodeCommand ⟨0x05, a, b, c, data⟩ = .ok .brPos ∧ decodeCommand ⟨0x14, a, b, c, data⟩ = .ok .bwPos) ∧
  (∀ s : State, s.dec.phase ≠ .fault →
    exec .brPos s =
      Claims.decNext s s.dec (Claims.ok2 s.dec.bitpos (BitVec.ofNat 32 (s.dec.bitpos.toNat / 16)))) ∧
  (∀ s : State, s.enc.phase ≠ .fault →
    exec .bwPos s =
      Claims.encNext s s.enc (Claims.ok2 s.enc.wbits (BitVec.ofNat 32 (s.enc.wbits.toNat / 16))))

/-- The stream is read in 16-bit words, most significant bit first: in LE16 the first eight bits of a word come from
the byte at the higher address, in BE16 from the lower (R25). -/
def Obligations.StreamBitsFollowTheByteOrder : Prop :=
  ∀ (d : Dec) (p : Nat),
    (d.order = .le16 → p % 16 < 8 → d.streamBit p = (d.buf.read (2 * (p / 16) + 1)).getLsbD (7 - p % 16)) ∧
    (d.order = .le16 → 8 ≤ p % 16 → d.streamBit p = (d.buf.read (2 * (p / 16))).getLsbD (15 - p % 16)) ∧
    (d.order = .be16 → p % 16 < 8 → d.streamBit p = (d.buf.read (2 * (p / 16))).getLsbD (7 - p % 16)) ∧
    (d.order = .be16 → 8 ≤ p % 16 → d.streamBit p = (d.buf.read (2 * (p / 16) + 1)).getLsbD (15 - p % 16))

/-- The cursor never goes back and never passes the end, but by `BR_INIT` or `DEC_RESET` (R58). -/
def Obligations.CursorOnlyAdvances : Prop :=
  ∀ (i : Instr) (s t : State), s.dec.bitpos.toNat ≤ s.dec.nbits.toNat → exec i s = .next t →
    i ≠ .decReset → (∀ order offset data, i ≠ .brInit order offset data) →
    s.dec.bitpos.toNat ≤ t.dec.bitpos.toNat ∧ t.dec.bitpos.toNat ≤ t.dec.nbits.toNat ∧ t.dec.nbits = s.dec.nbits

/-- Each memory has one writer: BUF only `BR_INIT` and `DEC_RESET`, OBUF only `BW_FLUSH`, `ENC_FINISH` and
`ENC_RESET`; every other instruction leaves every byte of both as it was, and a flush or a finish every byte from
`OUTLEN` on (R22, R23, R33, R38; that a reset clears the memories and that a byte past `OUTLEN` keeps its value are
the model's choices, assumption logs 8 and 18). -/
def Obligations.MemoriesHaveOneWriter : Prop :=
  ∀ (i : Instr) (s t : State), exec i s = .next t →
    (i ≠ .decReset → (∀ order offset data, i ≠ .brInit order offset data) →
      t.dec.buflen = s.dec.buflen ∧ t.dec.order = s.dec.order ∧ ∀ a, t.dec.buf.read a = s.dec.buf.read a) ∧
    (i ≠ .encReset → i ≠ .bwFlush → i ≠ .encFinish → ∀ a, t.enc.obuf.read a = s.enc.obuf.read a) ∧
    (i = .bwFlush ∨ i = .encFinish → ∀ a, t.enc.outlen.toNat ≤ a → t.enc.obuf.read a = s.enc.obuf.read a)

/-! ## The codebook -/

/-- The properties of `STRV2_TABLE`, items 1 to 5 (R49). -/
def Obligations.TableHasItsProperties : Prop :=
  prefixFree (strv2Table.flatMap entryCodes) = true ∧
  strv2Table.length = 113 ∧
  pairsDistinct (normalPairs strv2Table) = true ∧
  ([(2, 1), (3, 1), (4, 2), (5, 3), (6, 4), (7, 4), (8, 8), (10, 8), (12, 16), (13, 16), (14, 16), (15, 16),
      (16, 16)] : List (Nat × Nat)).all
    (fun p => ((strv2Table.drop 2).countP (fun e => e.pfx.length == p.1)) == p.2) = true ∧
  Config.codebook.entries = strv2Table ∧ Config.codebook.maxLen = 16 ∧
  (strv2Table.flatMap entryCodes).all (fun c => decide (c.length ≤ 17)) = true ∧
  (∃ c ∈ strv2Table.flatMap entryCodes, c.length = 17) ∧
  4096 * ((strv2Table.flatMap entryCodes).map (fun c => 2 ^ (17 - c.length))).sum = 4095 * 2 ^ 17 ∧
  (∀ b : Bits, 17 ≤ b.length →
    ((∀ c ∈ strv2Table.flatMap entryCodes, ¬ c <+: b) ↔ List.replicate 12 false <+: b)) ∧
  (∀ p ∈ normalPairs strv2Table, p.1 ≤ 31 ∧ 1 ≤ p.2 ∧ p.2 ≤ 40) ∧
  (∃ p ∈ normalPairs strv2Table, p.1 = 31) ∧ (∃ p ∈ normalPairs strv2Table, p.2 = 40)

/-- The match is unambiguous: at most one entry has a given prefix, the answer does not depend on the order of the
entries, and it depends only on the bits at the cursor (R70). -/
def Obligations.MatchDependsOnTheBitsAlone : Prop :=
  (∀ (cb : Codebook) (e e' : Entry), e ∈ cb.entries → e' ∈ cb.entries → e.pfx = e'.pfx → e = e') ∧
  (∀ (cb cb' : Codebook) (d : Dec), cb.entries.Perm cb'.entries → cb.maxLen = cb'.maxLen →
    cbMatch cb d = cbMatch cb' d) ∧
  (∀ (cb : Codebook) (d d' : Dec), d.remaining = d'.remaining →
    match cbMatch cb d, cbMatch cb d' with
    | .ok (k, d1), .ok (k', d1') => k = k' ∧ d1.bitpos - d.bitpos = d1'.bitpos - d'.bitpos
    | .error e, .error e' => e = e'
    | _, _ => False)

/-- The prefix match of every admitted codebook: a match consumes exactly the prefix; the stream ends before the walk
decides; no entry extends what was read. With `STRV2_TABLE` the last happens exactly on twelve zeros (R69). -/
def Obligations.MatchFindsThePrefix : Prop :=
  (∀ (cb : Codebook) (d : Dec),
    (∀ e ∈ cb.entries, e.pfx <+: d.remaining → cbMatch cb d = .ok (e.kind, d.advance e.pfx.length)) ∧
    ((∀ e ∈ cb.entries, ¬ e.pfx <+: d.remaining) → (∃ e ∈ cb.entries, d.remaining <+: e.pfx) →
      cbMatch cb d = .error .endOfStream) ∧
    ((∀ e ∈ cb.entries, ¬ e.pfx <+: d.remaining) → (∀ e ∈ cb.entries, ¬ d.remaining <+: e.pfx) →
      cbMatch cb d = .error .readCorruption)) ∧
  (∀ d : Dec, cbMatch Config.codebook d = .error .readCorruption ↔ List.replicate 12 false <+: d.remaining)

/-- Decode and lookup are inverses on the table, and the escape covers the rest (R75). -/
def Obligations.DecodeInvertsLookup : Prop :=
  (∀ (e : Entry) (run level : Nat) (neg : Bool), e ∈ Claims.entries → e.kind = .normal run level →
    cbLookup Config.codebook (BitVec.ofNat 6 run)
      (if neg then -(BitVec.ofNat 10 level) else BitVec.ofNat 10 level) = some (e.pfx ++ [neg])) ∧
  (∀ (run : BitVec 6) (level : BitVec 10) (b : Bits) (d : Dec), cbLookup Config.codebook run level = some b →
    b <+: d.remaining → decodeAC Config.codebook d = .ok (.normal, pack run level, d.advance b.length)) ∧
  (∀ (run : BitVec 6) (level : BitVec 10) (d : Dec), cbLookup Config.codebook run level = none →
    pack run level ≠ 0xFE00 →
    ([false, false, false, false, false, true] ++ wordBits run ++ wordBits level) <+: d.remaining →
    decodeAC Config.codebook d = .ok (.esc, pack run level, d.advance 22))

/-- `CB_DECODE` is `DecodeAC` and the report of its kind and word, or its error; on a table code, an escape and an
end-of-block at the cursor, that kind and word, and the cursor moved by the code's length, and nothing else changed
(R72). -/
def Obligations.CbDecodeReportsTheCode : Prop :=
  (∀ (a b c : Word32) (data : List Byte), decodeCommand ⟨0x06, a, b, c, data⟩ = .ok .cbDecode) ∧
  ∀ s : State, s.dec.phase ≠ .fault →
    (∀ e : ErrCode, decodeAC Config.codebook s.dec = .error e → exec .cbDecode s = Claims.decRaises s e e.status) ∧
    (∀ (k : AcKind) (w : Code) (d : Dec), decodeAC Config.codebook s.dec = .ok (k, w, d) →
      d = { s.dec with bitpos := d.bitpos } ∧
      exec .cbDecode s =
        Claims.decNext s d (Claims.ok2 (match k with | .normal => 0 | .eob => 1 | .esc => 2) (w.setWidth 32))) ∧
    (∀ (e : Entry) (run level : Nat) (neg : Bool), e ∈ Claims.entries → e.kind = .normal run level →
      (e.pfx ++ [neg]) <+: s.dec.remaining →
      exec .cbDecode s =
        Claims.decNext s { s.dec with bitpos := s.dec.bitpos + BitVec.ofNat 32 (e.pfx.length + 1) }
          (Claims.ok2 0 ((Claims.rowWord run level neg).setWidth 32))) ∧
    ([true, false] <+: s.dec.remaining →
      exec .cbDecode s =
        Claims.decNext s { s.dec with bitpos := s.dec.bitpos + 2 } (Claims.ok2 1 0xFE00)) ∧
    (∀ w : Code, ([false, false, false, false, false, true] ++ wordBits w) <+: s.dec.remaining →
      (w ≠ 0xFE00 →
        exec .cbDecode s =
          Claims.decNext s { s.dec with bitpos := s.dec.bitpos + 22 } (Claims.ok2 2 (w.setWidth 32))) ∧
      (w = 0xFE00 → exec .cbDecode s = Claims.decRaises s .readCorruption .readCorruption)) ∧
    (List.replicate 12 false <+: s.dec.remaining →
      exec .cbDecode s = Claims.decRaises s .readCorruption .readCorruption) ∧
    (s.dec.remaining = [] → exec .cbDecode s = Claims.decRaises s .endOfStream .endOfStream)

/-- `CB_LOOKUP`: on a pair of the table a hit with the code's length and bits, else a miss; nothing is written (R73,
R74). -/
def Obligations.CbLookupReportsTheCode : Prop :=
  (∀ (a b c : Word32) (data : List Byte),
    decodeCommand ⟨0x16, a, b, c, data⟩ = .ok (.cbLookup (a.extractLsb' 0 6) (b.extractLsb' 0 10))) ∧
  ∀ (s : State) (run : BitVec 6) (level : BitVec 10), s.enc.phase ≠ .fault →
    (∀ e ∈ Claims.entries, e.kind = .normal run.toNat level.toInt.natAbs →
      exec (.cbLookup run level) s =
        Claims.encNext s s.enc
          (Claims.ok2 (BitVec.ofNat 32 (1 + 256 * (e.pfx.length + 1)))
            (BitVec.ofNat 32 (2 * bitsToNat e.pfx + if level.toInt < 0 then 1 else 0)))) ∧
    ((∀ e ∈ Claims.entries, e.kind ≠ .normal run.toNat level.toInt.natAbs) →
      exec (.cbLookup run level) s = Claims.encNext s s.enc (Claims.ok2 0 0))

/-! ## The stream elements as instructions -/

/-- Every one of the 111 VLC instructions, at an AC position of a frame: the word `pack(run, ±level)` of its row is
emitted and the code's bits are consumed; the stream may end before them (R44, R48, R79). That the element does this
also with no command, or a command other than `DEC_STEP`, on the port is the model's choice (assumption log 10). -/
def Obligations.VlcCodesAreEmitted : Prop :=
  ∀ r ∈ vlcRows, ∀ (neg : Bool) (s : State), s.underCbDecode = false → s.dec.phase = .readingAc →
    (Claims.bitsThere s.dec (r.pfx.length + 1) →
      exec (r.build neg) s =
        Claims.decNext s (Claims.emitAfter s.dec (r.pfx.length + 1) (Claims.rowWord r.run r.level neg))
          (Claims.ok2 1 ((Claims.rowWord r.run r.level neg).setWidth 32))) ∧
    (¬ Claims.bitsThere s.dec (r.pfx.length + 1) →
      exec (r.build neg) s = Claims.decRaises s .endOfStream .endOfStream)

/-- The same 111 instructions under `CB_DECODE`: reported, and only the cursor moves (R72). -/
def Obligations.VlcCodesAreReportedUnderCbDecode : Prop :=
  ∀ r ∈ vlcRows, ∀ (neg : Bool) (s : State), s.underCbDecode = true → s.dec.phase ≠ .fault →
    Claims.bitsThere s.dec (r.pfx.length + 1) →
    exec (r.build neg) s =
      Claims.decNext s { s.dec with bitpos := s.dec.bitpos + BitVec.ofNat 32 (r.pfx.length + 1) }
        (Claims.ok2 0 ((Claims.rowWord r.run r.level neg).setWidth 32))

/-- The instructions that can stand at an AC position are the end-of-block, the escape and the rows, and the rows are
the codebook's NORMAL entries: prefix, run and level (R41, R48). -/
def Obligations.RowsAreTheTable : Prop :=
  (∀ i : Instr, i.position = .ac →
    i = .eob ∨ (∃ r l, i = .esc r l) ∨ ∃ row ∈ vlcRows, ∃ neg, i = row.build neg) ∧
  (∀ row ∈ vlcRows, ∀ neg : Bool,
    (row.build neg).position = .ac ∧ encode (row.build neg) = .stream (row.pfx ++ [neg])) ∧
  strv2Table =
    [⟨[true, false], .eob⟩, ⟨[false, false, false, false, false, true], .esc⟩] ++
      vlcRows.map (fun row => ⟨row.pfx, .normal row.run row.level⟩)

/-- EOB and ESC at an AC position of a frame: the end-of-block closes the block; an escape stands for its 16 bits, a
level of 0 is logged and not rejected, and the end-of-data word is corrupt (R45, R46, R51 case 3, R79). That they do
this also with no command, or a command other than `DEC_STEP`, on the port is the model's choice (assumption log 10). -/
def Obligations.EobAndEscAreEmitted : Prop :=
  ∀ s : State, s.underCbDecode = false → s.dec.phase = .readingAc →
    (Claims.bitsThere s.dec 2 →
      exec .eob s =
        Claims.decNext s { Claims.emitAfter s.dec 2 0xFE00 with phase := .blockDone } (Claims.ok2 1 0xFE00)) ∧
    (¬ Claims.bitsThere s.dec 2 → exec .eob s = Claims.decRaises s .endOfStream .endOfStream) ∧
    (∀ (r : BitVec 6) (l : BitVec 10),
      (¬ Claims.bitsThere s.dec 22 → exec (.esc r l) s = Claims.decRaises s .endOfStream .endOfStream) ∧
      (Claims.bitsThere s.dec 22 → r ++ l = 0xFE00#16 →
        exec (.esc r l) s = Claims.decRaises s .readCorruption .readCorruption) ∧
      (Claims.bitsThere s.dec 22 → r ++ l ≠ 0xFE00#16 →
        exec (.esc r l) s =
          Claims.decNext s
            { Claims.emitAfter s.dec 22 (r ++ l) with
              esczero := if l = 0 then s.dec.esczero + 1 else s.dec.esczero }
            (Claims.ok2 1 ((r ++ l : Code).setWidth 32))))

/-- The DC fields at a block's start: DC_GLOBAL takes its top from `DEC.QSCALE`, DC_PER_BLOCK from its own six bits;
the word that equals the end-of-data word is corrupt (R42, R43, R51 case 2, R78). That they do this also with no
command, or a command other than `DEC_STEP`, on the port is the model's choice (assumption log 10). -/
def Obligations.DcFieldsAreEmitted : Prop :=
  ∀ s : State, s.underCbDecode = false → s.dec.phase = .blockStart →
    (∀ d : BitVec 10, s.dec.qmode = .global →
      (¬ Claims.bitsThere s.dec 10 → exec (.dcGlobal d) s = Claims.decRaises s .endOfStream .endOfStream) ∧
      (Claims.bitsThere s.dec 10 → s.dec.qscale = 63 ∧ d = 512 →
        exec (.dcGlobal d) s = Claims.decRaises s .readCorruption .readCorruption) ∧
      (Claims.bitsThere s.dec 10 → ¬ (s.dec.qscale = 63 ∧ d = 512) →
        exec (.dcGlobal d) s =
          Claims.decNext s { Claims.emitAfter s.dec 10 (s.dec.qscale ++ d) with phase := .readingAc }
            (Claims.ok2 1 ((s.dec.qscale ++ d : Code).setWidth 32)))) ∧
    (∀ (q : BitVec 6) (d : BitVec 10), s.dec.qmode = .perBlock →
      (¬ Claims.bitsThere s.dec 16 → exec (.dcPerBlock q d) s = Claims.decRaises s .endOfStream .endOfStream) ∧
      (Claims.bitsThere s.dec 16 → q = 63 ∧ d = 512 →
        exec (.dcPerBlock q d) s = Claims.decRaises s .readCorruption .readCorruption) ∧
      (Claims.bitsThere s.dec 16 → ¬ (q = 63 ∧ d = 512) →
        exec (.dcPerBlock q d) s =
          Claims.decNext s { Claims.emitAfter s.dec 16 (q ++ d) with phase := .readingAc }
            (Claims.ok2 1 ((q ++ d : Code).setWidth 32))))

/-- TRAILER after the last macroblock is the trailer that `DEC_SKIP_PADDING` accepts without a warning; before the end of
the frame, or a second time, it raises as that command does (R47, R83). That the element does this whatever command
the port holds is the model's choice (assumption log 10). -/
def Obligations.TrailerIsAccepted : Prop :=
  ∀ s : State,
    (s.dec.phase = .frameDone → s.dec.paddone = false →
      (Claims.bitsThere s.dec 11 →
        exec .trailer s =
          Claims.decNext s { s.dec with bitpos := s.dec.bitpos + 11, padwarn := false, paddone := true }
            (Claims.ok2 0x3FE 0)) ∧
      (¬ Claims.bitsThere s.dec 11 → exec .trailer s = Claims.decRaises s .endOfStream .endOfStream) ∧
      ([false, true, true, true, true, true, true, true, true, true, false] <+: s.dec.remaining →
        exec .decSkipPadding s = exec .trailer s)) ∧
    (s.dec.phase ≠ .fault → s.dec.phase ≠ .frameDone ∨ s.dec.paddone = true →
      exec .trailer s = Claims.decRaises s .programmingFault .programmingFault)

/-- A stream element away from where it is read, all of it the model's own choice (assumption log 10; the fetch is by
position, R38, R41, R50): where the engine reads an element of another kind it does not stand, and the model refuses it
by name; in a phase that reads no element it does what `DEC_STEP` does there; in `FAULT` it answers as a command does. -/
def Obligations.MisplacedElementsDoNotRun : Prop :=
  ∀ s : State,
    (∀ i : Instr, i.position ≠ .command → s.dec.phase = .fault →
      exec i s = Claims.decNext s s.dec (Claims.bare s.dec.err.status)) ∧
    (∀ i : Instr, i.position = .ac ∨ i.position = .dcGlobal ∨ i.position = .dcPerBlock → s.underCbDecode = false →
      s.dec.phase = .idle ∨ s.dec.phase = .blockDone ∨ s.dec.phase = .frameDone → exec i s = exec .decStep s) ∧
    (∀ i : Instr, i.position = .ac → s.underCbDecode = false → s.dec.phase = .blockStart →
      exec i s = .refused .notInPosition) ∧
    (∀ (q : BitVec 6) (d : BitVec 10),
      (s.dec.phase = .readingAc →
        exec (.dcGlobal d) s = .refused .notInPosition ∧ exec (.dcPerBlock q d) s = .refused .notInPosition) ∧
      (s.dec.phase = .blockStart → s.dec.qmode = .perBlock → exec (.dcGlobal d) s = .refused .notInPosition) ∧
      (s.dec.phase = .blockStart → s.dec.qmode = .global → exec (.dcPerBlock q d) s = .refused .notInPosition))

/-! ## The decode engine -/

/-- `DEC_START`: its two faults, and the frame it begins at the current cursor (R76). -/
def Obligations.DecStartBeginsAFrame : Prop :=
  (∀ (a b c : Word32) (data : List Byte),
    decodeCommand ⟨0x08, a, b, c, data⟩ =
      .ok (.decStart (if a.getLsbD 0 then .perBlock else .global) (b.extractLsb' 0 6) (c.extractLsb' 0 16))) ∧
  ∀ (s : State) (qmode : QMode) (qscale : BitVec 6) (mbtotal : BitVec 16), s.dec.phase ≠ .fault →
    (mbtotal = 0 →
      exec (.decStart qmode qscale mbtotal) s = Claims.decRaises s .programmingFault .programmingFault) ∧
    (qmode = .global → qscale = 0 →
      exec (.decStart qmode qscale mbtotal) s = Claims.decRaises s .programmingFault .programmingFault) ∧
    (mbtotal ≠ 0 → (qmode = .perBlock ∨ qscale ≠ 0) →
      exec (.decStart qmode qscale mbtotal) s =
        Claims.decNext s
          { s.dec with
            qmode := qmode, qscale := if qmode = .global then qscale else 0, mbtotal := mbtotal, mb := 0, blk := 0,
            codecount := 0, esczero := 0, padwarn := false, paddone := false, lastWord := 0, lastValid := false,
            out := [], phase := .blockStart }
          Claims.ok0)

/-- `DEC_STEP` in the phases that read no stream element: not started, the advance to the next block or macroblock or
the frame's end, which read no bits and emit nothing (R80), and the terminal state (R77). -/
def Obligations.DecStepBetweenElements : Prop :=
  ∀ s : State,
    (s.dec.phase = .idle → exec .decStep s = Claims.decRaises s .programmingFault .programmingFault) ∧
    (s.dec.phase = .blockDone → s.dec.blk ≠ 5 →
      exec .decStep s =
        Claims.decNext s { s.dec with blk := s.dec.blk + 1, phase := .blockStart } (Claims.ok2 0 0)) ∧
    (s.dec.phase = .blockDone → s.dec.blk = 5 → s.dec.mb + 1 ≠ s.dec.mbtotal →
      exec .decStep s =
        Claims.decNext s { s.dec with blk := 0, mb := s.dec.mb + 1, phase := .blockStart } (Claims.ok2 0 0)) ∧
    (s.dec.phase = .blockDone → s.dec.blk = 5 → s.dec.mb + 1 = s.dec.mbtotal →
      exec .decStep s =
        Claims.decNext s { s.dec with blk := 0, mb := s.dec.mb + 1, phase := .frameDone } (Claims.ok2 0 0)) ∧
    (s.dec.phase = .frameDone → exec .decStep s = Claims.decNext s s.dec ⟨.done, some 0, some 0, none⟩)

/-- `DEC_STEP` at a block's start: 10 bits under the frame's qscale or 16 bits as they are, emitted as the block's first
word; too few bits, or the end-of-data word, raise (R78). -/
def Obligations.DecStepReadsTheDc : Prop :=
  ∀ (s : State) (n : Nat) (w : Code), s.dec.phase = .blockStart →
    ((s.dec.qmode = .global ∧ n = 10 ∧
        w = s.dec.qscale ++ BitVec.ofNat 10 (bitsToNat (s.dec.streamBits s.dec.bitpos.toNat 10))) ∨
      (s.dec.qmode = .perBlock ∧ n = 16 ∧
        w = BitVec.ofNat 16 (bitsToNat (s.dec.streamBits s.dec.bitpos.toNat 16)))) →
    (¬ Claims.bitsThere s.dec n → exec .decStep s = Claims.decRaises s .endOfStream .endOfStream) ∧
    (Claims.bitsThere s.dec n → w = 0xFE00 →
      exec .decStep s = Claims.decRaises s .readCorruption .readCorruption) ∧
    (Claims.bitsThere s.dec n → w ≠ 0xFE00 →
      exec .decStep s =
        Claims.decNext s { Claims.emitAfter s.dec n w with phase := .readingAc } (Claims.ok2 1 (w.setWidth 32)))

/-- `DEC_STEP` after the DC: one AC code as `DecodeAC` gives it, a level-0 escape logged and not rejected, an
end-of-block ending the block; what `DecodeAC` raises is raised (R79). -/
def Obligations.DecStepReadsAnAcCode : Prop :=
  ∀ s : State, s.dec.phase = .readingAc →
    (∀ e : ErrCode, decodeAC Config.codebook s.dec = .error e →
      (e = .endOfStream ∨ e = .readCorruption) ∧ exec .decStep s = Claims.decRaises s e e.status) ∧
    (∀ (k : AcKind) (w : Code) (d : Dec), decodeAC Config.codebook s.dec = .ok (k, w, d) →
      (k = .eob ↔ w = 0xFE00) ∧
      ∃ n : Nat, Claims.bitsThere s.dec n ∧ d = { s.dec with bitpos := s.dec.bitpos + BitVec.ofNat 32 n } ∧
        exec .decStep s =
          Claims.decNext s
            { Claims.emitAfter s.dec n w with
              esczero := if k = .esc ∧ w.extractLsb' 0 10 = 0#10 then s.dec.esczero + 1 else s.dec.esczero
              phase := if k = .eob then .blockDone else .readingAc }
            (Claims.ok2 1 (w.setWidth 32)))

/-- `n` steps of the engine, none of them at the terminal state and none raising; none where there are no such steps. -/
def Claims.engineAfter : Nat → Dec → Option Dec
  | 0, d => some d
  | n + 1, d =>
    if d.phase = .frameDone then none
    else
      match d.step with
      | .ok (_, d') => Claims.engineAfter n d'
      | .error _ => none

/-- `DEC_SKIP_MB` is the engine's steps up to `FRAME_DONE` or to the step that raises, whose predecessors keep their
effects, and it ends within `NBITS + 6·MBTOTAL` actions; in `IDLE` it raises; where the steps reach `FRAME_DONE` it
completes there (R81, R82, R104). -/
def Obligations.SkipMbIsTheEngineRunToItsEnd : Prop :=
  (∀ (a b c : Word32) (data : List Byte), decodeCommand ⟨0x0A, a, b, c, data⟩ = .ok .decSkipMb) ∧
  (∀ s : State, s.dec.phase = .idle →
    exec .decSkipMb s = Claims.decRaises s .programmingFault .programmingFault) ∧
  (∀ s : State, s.dec.Inv → s.dec.started →
    ∃ (n : Nat) (d : Dec), Claims.engineAfter n s.dec = some d ∧
      ((d.phase = .frameDone ∧ n ≤ s.dec.nbits.toNat + 6 * s.dec.mbtotal.toNat ∧
          exec .decSkipMb s =
            Claims.decNext s d (Claims.ok2 d.bitpos (BitVec.ofNat 32 ((d.bitpos.toNat + 15) / 16)))) ∨
        (∃ e : ErrCode, d.step = .error e ∧ n + 1 ≤ s.dec.nbits.toNat + 6 * s.dec.mbtotal.toNat ∧
          exec .decSkipMb s =
            Claims.decNext s { d with err := e, phase := .fault } (Claims.bare e.status)))) ∧
  (∀ (s : State) (n : Nat) (d : Dec), s.dec.Inv → s.dec.started → Claims.engineAfter n s.dec = some d →
    d.phase = .frameDone →
    exec .decSkipMb s =
      Claims.decNext s d (Claims.ok2 d.bitpos (BitVec.ofNat 32 ((d.bitpos.toNat + 15) / 16)))) ∧
  (∀ (d d' : Dec) (r : Response), d.step = .ok (r, d') →
    (d.phase = .readingAc → d.bitpos.toNat + 2 ≤ d'.bitpos.toNat) ∧
    (d.phase = .blockStart →
      d'.bitpos.toNat = d.bitpos.toNat + (if d.qmode = .global then 10 else 16)) ∧
    (d.phase = .blockDone → d'.bitpos = d.bitpos ∧ (d'.phase = .blockStart ∨ d'.phase = .frameDone)))

/-- No instruction ends in a fault of the machine, in any state: the loop bound of `DEC_SKIP_MB` is never used up
(R82, R114). The fault `skipBound`, and the two actions by which the model's bound exceeds R82's so that this holds also
in states no run reaches, are the model's choice (assumption log 14). -/
def Obligations.NoInstructionFaults : Prop :=
  ∀ (i : Instr) (s : State), noMachineFault (exec i s)

/-- `DEC_SKIP_PADDING`: only after the frame and only once; any 11 bits are accepted and a mismatch only warns (R83). -/
def Obligations.SkipPaddingOnlyWarns : Prop :=
  (∀ (a b c : Word32) (data : List Byte), decodeCommand ⟨0x0B, a, b, c, data⟩ = .ok .decSkipPadding) ∧
  ∀ s : State, s.dec.phase ≠ .fault →
    (s.dec.phase ≠ .frameDone ∨ s.dec.paddone = true →
      exec .decSkipPadding s = Claims.decRaises s .programmingFault .programmingFault) ∧
    (s.dec.phase = .frameDone → s.dec.paddone = false → ¬ Claims.bitsThere s.dec 11 →
      exec .decSkipPadding s = Claims.decRaises s .endOfStream .endOfStream) ∧
    (s.dec.phase = .frameDone → s.dec.paddone = false → Claims.bitsThere s.dec 11 →
      ∀ v : Nat, v = bitsToNat (s.dec.streamBits s.dec.bitpos.toNat 11) →
        exec .decSkipPadding s =
          Claims.decNext s
            { s.dec with bitpos := s.dec.bitpos + 11, padwarn := decide (v ≠ 0x3FE), paddone := true }
            (Claims.ok2 (BitVec.ofNat 32 v) (if v = 0x3FE then 0 else 1)))

/-- What a finished decode has emitted: `6·MBTOTAL` groups, one per block, a DC word, AC words and the end-of-data word,
with the frame's qscale on top of every DC in GLOBAL mode, and `CODECOUNT` words in all (R84). -/
def Obligations.OutputIsSixBlocksPerMacroblock : Prop :=
  ∀ d : Dec, d.Inv → d.phase = .frameDone →
    ∃ blocks : List (Code × List Code), blocks.length = 6 * d.mbtotal.toNat ∧
      d.out = blocks.flatMap (fun b => b.1 :: (b.2 ++ [0xFE00])) ∧
      (∀ b ∈ blocks, b.1 ≠ 0xFE00 ∧ (∀ w ∈ b.2, w ≠ 0xFE00) ∧ (d.qmode = .global → topField b.1 = d.qscale)) ∧
      d.codecount = BitVec.ofNat 32 d.out.length

/-! ## The header -/

/-- `HDR_PARSE` by the header's eight bytes: what makes a header valid, what is latched, and that an invalid header is
a status and no fault (R95, R96). -/
def Obligations.HdrParseValidatesTheHeader : Prop :=
  (∀ (a b c : Word32) (data : List Byte), decodeCommand ⟨0x07, a, b, c, data⟩ = .ok .hdrParse) ∧
  ∀ s : State, s.dec.phase ≠ .fault →
    let byte := s.dec.buf.read
    let valid := 8 ≤ s.dec.buflen.toNat ∧ (byte 1).toNat < 128 ∧ byte 2 = 0x00 ∧ byte 3 = 0x38 ∧
      1 ≤ (byte 4).toNat ∧ (byte 4).toNat ≤ 63 ∧ byte 5 = 0 ∧ byte 6 = 2 ∧ byte 7 = 0
    (valid →
      exec .hdrParse s =
        Claims.decNext s
          { s.dec with
            hdrHint := byte 1 ++ byte 0, hdrQscale := byte 5 ++ byte 4, hdrVersion := byte 7 ++ byte 6,
            hdrValid := true }
          (Claims.ok2 1 ((byte 4).setWidth 32))) ∧
    (¬ valid →
      exec .hdrParse s =
        Claims.decNext s { s.dec with hdrHint := 0, hdrQscale := 0, hdrVersion := 0, hdrValid := false }
          ⟨.formatNotRecognized, some 0, some 0, none⟩)

/-- `CountHint(N)`: the least multiple of 32 that is at least half of `N` (R99). -/
def Obligations.CountHintIsTheLeastMultiple : Prop :=
  ∀ n : Nat, 32 ∣ countHint n ∧ n ≤ 2 * countHint n ∧ ∀ m : Nat, 32 ∣ m → n ≤ 2 * m → countHint n ≤ m

/-- The header that the encoder builds with `VERSION` meets `HdrValid` (R100, R95). -/
def Obligations.BuiltHeadersAreValid : Prop :=
  ∀ (d : Dec) (h : Code) (q : BitVec 6), h.toNat ≤ 32767 → 1 ≤ q.toNat → 8 ≤ d.buflen.toNat →
    (∀ i : Nat, i < 8 → d.buf.read i = (headerBytes h q 2)[i]?.getD 0) →
    d.hdrOk = true ∧ d.u16 0 = h ∧ d.u16 4 = q.setWidth 16

/-! ## The writer and the encode engine -/

/-- Word `j` of the stream stands at `base + 2j` in the unit's byte order, for every whole word (R29). -/
def Claims.wordsStored (order : Order) (ws : Bits) (base : Nat) (m : Mem) : Prop :=
  ∀ j : Nat, 16 * (j + 1) ≤ ws.length → ∀ k : Nat, k < 8 →
    (order = .le16 →
      (m.read (base + 2 * j)).getLsbD k = ws.getD (16 * j + 15 - k) false ∧
      (m.read (base + 2 * j + 1)).getLsbD k = ws.getD (16 * j + 7 - k) false) ∧
    (order = .be16 →
      (m.read (base + 2 * j)).getLsbD k = ws.getD (16 * j + 7 - k) false ∧
      (m.read (base + 2 * j + 1)).getLsbD k = ws.getD (16 * j + 15 - k) false)

/-- The bytes of `OBUF` that a response returns (R54). -/
def Claims.contents (e : Enc) : List Byte := (List.range e.outlen.toNat).map e.obuf.read

/-- `BW_INIT` constructs an empty writer in every phase; `BW_WRITE` appends the low `n` bits, most significant first
(R64, R65). -/
def Obligations.WriterIsInitialisedAndWritten : Prop :=
  (∀ (a b c : Word32) (data : List Byte),
    decodeCommand ⟨0x12, a, b, c, data⟩ = .ok (.bwInit (if a.getLsbD 0 then .be16 else .le16)) ∧
    decodeCommand ⟨0x13, a, b, c, data⟩ = .ok (.bwWrite a (b.extractLsb' 0 6))) ∧
  (∀ (s : State) (order : Order),
    exec (.bwInit order) s =
      Claims.encNext s
        { order := order, phase := .idle, mbtotal := 0, mb := 0, blk := 0, qscale := 0, qvalid := false,
          codecount := 0, wbits := 0, err := .none, version := s.enc.version, outlen := 0, wstream := [],
          obuf := s.enc.obuf, taken := [] }
        Claims.ok0) ∧
  (∀ (s : State) (value : Word32) (n : BitVec 6), s.enc.phase ≠ .fault →
    (n.toNat < 1 ∨ 32 < n.toNat →
      exec (.bwWrite value n) s = Claims.encRaises s .programmingFault .programmingFault) ∧
    (1 ≤ n.toNat → n.toNat ≤ 32 → 2 ^ 32 - 1 < s.enc.wbits.toNat + n.toNat →
      exec (.bwWrite value n) s = Claims.encRaises s .programmingFault .programmingFault) ∧
    (1 ≤ n.toNat → n.toNat ≤ 32 → s.enc.wbits.toNat + n.toNat ≤ 2 ^ 32 - 1 →
      ∃ b : Bits, b.length = n.toNat ∧
        (∀ (i : Nat) (h : i < b.length), b[i] = value.getLsbD (n.toNat - 1 - i)) ∧
        exec (.bwWrite value n) s =
          Claims.encNext s
            { s.enc with wstream := s.enc.wstream ++ b, wbits := s.enc.wbits + BitVec.ofNat 32 n.toNat }
            (Claims.ok1 (s.enc.wbits + BitVec.ofNat 32 n.toNat))))

/-- `BW_FLUSH` pads with zero bits to a word and stores the words from `OBUF[0]` in the unit's order; only a padding past
the writer's capacity raises (R67). (The bytes past them are in MemoriesHaveOneWriter.) -/
def Obligations.FlushStoresTheWords : Prop :=
  (∀ (a b c : Word32) (data : List Byte), decodeCommand ⟨0x15, a, b, c, data⟩ = .ok .bwFlush) ∧
  ∀ (s : State) (words : Nat), s.enc.Inv → s.enc.phase ≠ .fault → words = (s.enc.wbits.toNat + 15) / 16 →
    (2 ^ 32 - 1 < 16 * words → exec .bwFlush s = Claims.encRaises s .programmingFault .programmingFault) ∧
    (16 * words ≤ 2 ^ 32 - 1 →
      ∃ (m : Mem) (ws : Bits),
        ws = s.enc.wstream ++ List.replicate (16 * words - s.enc.wbits.toNat) false ∧
        Claims.wordsStored s.enc.order ws 0 m ∧
        exec .bwFlush s =
          Claims.encNext s
            { s.enc with
              wstream := ws, wbits := BitVec.ofNat 32 (16 * words), obuf := m,
              outlen := BitVec.ofNat 32 (2 * words) }
            ⟨.ok, some (BitVec.ofNat 32 (2 * words)), none, some ((List.range (2 * words)).map m.read)⟩)

/-- Writer and reader are inverses: a bit string of whole words, stored in an order and read back in the same order,
is the same bit string (R29). -/
def Obligations.WriterAndReaderAreInverses : Prop :=
  ∀ (order : Order) (b : Bits) (n : Nat) (d : Dec), b.length = 16 * n → d.order = order →
    (∀ (i : Nat) (h : i < (streamBytes order b n).length), d.buf.read i = (streamBytes order b n)[i]) →
    d.streamBits 0 b.length = b

/-- `ENC_START`: its fault, and the fresh attempt it begins, in every phase (R85). -/
def Obligations.EncStartBeginsAnAttempt : Prop :=
  (∀ (a b c : Word32) (data : List Byte),
    decodeCommand ⟨0x17, a, b, c, data⟩ = .ok (.encStart (c.extractLsb' 0 16) (b.extractLsb' 0 16))) ∧
  ∀ (s : State) (mbtotal : BitVec 16) (version : Code),
    (mbtotal = 0 → exec (.encStart mbtotal version) s = Claims.encRaises s .programmingFault .programmingFault) ∧
    (mbtotal ≠ 0 →
      exec (.encStart mbtotal version) s =
        Claims.encNext s
          { order := s.enc.order, phase := .blockStart, mbtotal := mbtotal, mb := 0, blk := 0, qscale := 0,
            qvalid := false, codecount := 0, wbits := 0, err := .none, version := version, outlen := 0, wstream := [],
            obuf := s.enc.obuf, taken := [] }
          Claims.ok0)

/-- `ENC_PUT` of the code that opens a block: the sentinel, qscale 0, a scale other than the frame's and a full writer
raise; else ten raw DC bits, and the first-seen scale is the frame's (R87). -/
def Obligations.PutOpensABlock : Prop :=
  ∀ (s : State) (w : Code), s.enc.phase = .blockStart →
    (w = 0xFE00 → exec (.encPut w) s = Claims.encRaises s .programmingFault .programmingFault) ∧
    (topField w = 0 → exec (.encPut w) s = Claims.encRaises s .incompatible .incompatible) ∧
    (w ≠ 0xFE00 → s.enc.qvalid = true → topField w ≠ s.enc.qscale →
      exec (.encPut w) s = Claims.encRaises s .incompatible .incompatible) ∧
    (w ≠ 0xFE00 → topField w ≠ 0 → (s.enc.qvalid = true → topField w = s.enc.qscale) →
      (2 ^ 32 - 1 < s.enc.wbits.toNat + 10 →
        exec (.encPut w) s = Claims.encRaises s .programmingFault .programmingFault) ∧
      (s.enc.wbits.toNat + 10 ≤ 2 ^ 32 - 1 →
        exec (.encPut w) s =
          Claims.encNext s
            { s.enc with
              wstream := s.enc.wstream ++ natToBits 10 (w.toNat % 1024), wbits := s.enc.wbits + 10,
              qscale := topField w, qvalid := true, codecount := s.enc.codecount + 1,
              taken := s.enc.taken ++ [w], phase := .inBlock }
            (Claims.ok1 10)))

/-- The bits that `ENC_PUT` appends for an AC word: the table's code where the pair is in it, else the escape (R88). -/
def Claims.acCode (w : Code) (b : Bits) : Prop :=
  (∃ e ∈ Claims.entries, e.kind = .normal (topField w).toNat (bottomField w).toInt.natAbs ∧
    b = e.pfx ++ [decide ((bottomField w).toInt < 0)]) ∨
  ((∀ e ∈ Claims.entries, e.kind ≠ .normal (topField w).toNat (bottomField w).toInt.natAbs) ∧
    b = [false, false, false, false, false, true] ++ natToBits 16 w.toNat)

/-- `ENC_PUT` inside a block: an AC word appends its table code or its escape; the end-of-block word appends `10` and
advances the block, the macroblock and the phase; only a full writer raises (R88, R89). -/
def Obligations.PutContinuesABlock : Prop :=
  ∀ (s : State) (w : Code), s.enc.phase = .inBlock →
    (w ≠ 0xFE00 → ∃ b : Bits, Claims.acCode w b ∧
      (2 ^ 32 - 1 < s.enc.wbits.toNat + b.length →
        exec (.encPut w) s = Claims.encRaises s .programmingFault .programmingFault) ∧
      (s.enc.wbits.toNat + b.length ≤ 2 ^ 32 - 1 →
        exec (.encPut w) s =
          Claims.encNext s
            { s.enc with
              wstream := s.enc.wstream ++ b, wbits := s.enc.wbits + BitVec.ofNat 32 b.length,
              codecount := s.enc.codecount + 1, taken := s.enc.taken ++ [w] }
            (Claims.ok1 (BitVec.ofNat 32 b.length)))) ∧
    (w = 0xFE00 →
      (2 ^ 32 - 1 < s.enc.wbits.toNat + 2 →
        exec (.encPut w) s = Claims.encRaises s .programmingFault .programmingFault) ∧
      (s.enc.wbits.toNat + 2 ≤ 2 ^ 32 - 1 →
        exec (.encPut w) s =
          Claims.encNext s
            { s.enc with
              wstream := s.enc.wstream ++ [true, false], wbits := s.enc.wbits + 2,
              codecount := s.enc.codecount + 1, taken := s.enc.taken ++ [w],
              blk := if s.enc.blk = 5 then 0 else s.enc.blk + 1,
              mb := if s.enc.blk = 5 then s.enc.mb + 1 else s.enc.mb,
              phase := if s.enc.blk = 5 ∧ s.enc.mb + 1 = s.enc.mbtotal then .frameDone else .blockStart }
            (Claims.ok1 2)))

/-- `ENC_PUT` outside a frame raises: not started, or the source over-produced (R86). -/
def Obligations.PutOutOfSequenceRaises : Prop :=
  ∀ (s : State) (w : Code), s.enc.phase = .idle ∨ s.enc.phase = .frameDone ∨ s.enc.phase = .finished →
    exec (.encPut w) s = Claims.encRaises s .programmingFault .programmingFault

/-- The escape path covers every code the port can carry: the escape bits of any AC word decode back to it; inside a
block `ENC_PUT` of any AC word succeeds while the writer has room, and the bits it appends decode back to the word;
`TooMuchEnergy` is raised by no instruction (R90). -/
def Obligations.EveryAcWordIsEncodable : Prop :=
  (∀ (w : Code) (d : Dec), w ≠ 0xFE00 →
    ([false, false, false, false, false, true] ++ natToBits 16 w.toNat) <+: d.remaining →
    decodeAC Config.codebook d = .ok (.esc, w, d.advance 22)) ∧
  (∀ (s : State) (w : Code), s.enc.phase = .inBlock → w ≠ 0xFE00 → s.enc.wbits.toNat + 22 ≤ 2 ^ 32 - 1 →
    ∃ (t : State) (b : Bits), exec (.encPut w) s = .next t ∧ t.enc.phase = .inBlock ∧ t.enc.err = s.enc.err ∧
      t.enc.wstream = s.enc.wstream ++ b ∧ t.enc.taken = s.enc.taken ++ [w] ∧
      ∀ d : Dec, b <+: d.remaining → ∃ k : AcKind, decodeAC Config.codebook d = .ok (k, w, d.advance b.length)) ∧
  (∀ (i : Instr) (s t : State), exec i s = .next t →
    (t.dec.err = .tooMuchEnergy → s.dec.err = .tooMuchEnergy) ∧
    (t.enc.err = .tooMuchEnergy → s.enc.err = .tooMuchEnergy))

/-- `ENC_FINISH`: mid-frame and a hint that does not fit raise; else the trailer, the zero padding, the header in
`OBUF[0..7]` and the words from `OBUF[8]` (R91, R100). (A full writer is in FinishOnAFullWriterRaises, the bytes past
the words in MemoriesHaveOneWriter.) -/
def Obligations.FinishAssemblesTheFrame : Prop :=
  (∀ (a b c : Word32) (data : List Byte), decodeCommand ⟨0x19, a, b, c, data⟩ = .ok .encFinish) ∧
  ∀ (s : State) (words h : Nat), s.enc.Inv → s.enc.phase ≠ .fault →
    words = (s.enc.wbits.toNat + 11 + 15) / 16 → h = countHint s.enc.codecount.toNat →
    (s.enc.phase ≠ .frameDone → exec .encFinish s = Claims.encRaises s .programmingFault .programmingFault) ∧
    (s.enc.phase = .frameDone → 32767 < h → exec .encFinish s = Claims.encRaises s .incompatible .incompatible) ∧
    (s.enc.phase = .frameDone → h ≤ 32767 → 16 * words ≤ 2 ^ 32 - 1 →
      ∃ (m : Mem) (ws : Bits),
        ws = s.enc.wstream ++ [false, true, true, true, true, true, true, true, true, true, false] ++
          List.replicate (16 * words - (s.enc.wbits.toNat + 11)) false ∧
        (m.read 0).toNat = h % 256 ∧ (m.read 1).toNat = h / 256 ∧ m.read 2 = 0x00 ∧ m.read 3 = 0x38 ∧
        (m.read 4).toNat = s.enc.qscale.toNat ∧ m.read 5 = 0 ∧
        (m.read 6).toNat = s.enc.version.toNat % 256 ∧ (m.read 7).toNat = s.enc.version.toNat / 256 ∧
        Claims.wordsStored s.enc.order ws 8 m ∧
        exec .encFinish s =
          Claims.encNext s
            { s.enc with
              wstream := ws, wbits := BitVec.ofNat 32 (16 * words), obuf := m,
              outlen := BitVec.ofNat 32 (8 + 2 * words), phase := .finished }
            ⟨.ok, some (BitVec.ofNat 32 (8 + 2 * words)), some s.enc.codecount,
              some ((List.range (8 + 2 * words)).map m.read)⟩)

/-- `ENC_FINISH` on a writer without room for the trailer and the padding: `WriteBits` raises `ProgrammingFault`, as R59
says, and nothing else happens. R91 does not list this exception; that it is raised is read from R59 (assumption
log 19). -/
def Obligations.FinishOnAFullWriterRaises : Prop :=
  ∀ s : State, s.enc.Inv → s.enc.phase = .frameDone → countHint s.enc.codecount.toNat ≤ 32767 →
    2 ^ 32 - 1 < 16 * ((s.enc.wbits.toNat + 11 + 15) / 16) →
    exec .encFinish s = Claims.encRaises s .programmingFault .programmingFault

/-- The code words of a frame: `6·n` blocks, each a DC word with qscale `q` on top, AC words, and the end-of-data word
(R84). -/
def Claims.frameWords (q : BitVec 6) (n : Nat) (ws : List Code) : Prop :=
  ∃ blocks : List (Code × List Code), blocks.length = 6 * n ∧
    ws = blocks.flatMap (fun b => b.1 :: (b.2 ++ [0xFE00])) ∧
    ∀ b ∈ blocks, b.1 ≠ 0xFE00 ∧ topField b.1 = q ∧ ∀ w ∈ b.2, w ≠ 0xFE00

/-- Round trip: the words of any GLOBAL-mode frame of at most 65472 words are encoded without error, and decoding the
frame that results, from the reader that `BR_INIT` constructs over it at bit 64, emits the same words (R93). -/
def Obligations.EncodeThenDecodeGivesTheWords : Prop :=
  ∀ (s : State) (q : BitVec 6) (mbtotal : BitVec 16) (version : Code) (ws : List Code),
    1 ≤ q.toNat → 1 ≤ mbtotal.toNat → Claims.frameWords q mbtotal.toNat ws → ws.length ≤ 65472 →
    s.enc.obuf.wf = true →
    ∃ t : State,
      Claims.runAll (.encStart mbtotal version :: (ws.map .encPut ++ [.encFinish])) s = some t ∧
      t.enc.phase = .finished ∧ t.enc.err = .none ∧ t.enc.codecount.toNat = ws.length ∧
      ∃ u : State,
        Claims.runAll [.decStart .global q mbtotal, .decSkipMb]
          (t.withDec (Dec.loaded t.enc.order 64 (Claims.contents t.enc))) = some u ∧
        u.dec.phase = .frameDone ∧ u.dec.err = .none ∧ u.dec.out = ws ∧ u.dec.codecount = t.enc.codecount

/-! ## Control -/

/-- The resets: every register of the unit at its reset value, the other unit untouched, in every phase; both together
are the power-on state of the units. The bytes of the memories after a reset are left open here (R101, R116). -/
def Obligations.ResetsRestoreTheUnits : Prop :=
  (∀ (a b c : Word32) (data : List Byte),
    decodeCommand ⟨0x00, a, b, c, data⟩ = .ok .decReset ∧ decodeCommand ⟨0x10, a, b, c, data⟩ = .ok .encReset) ∧
  (∀ s : State, ∃ m : Mem,
    exec .decReset s =
      Claims.decNext s
        { order := .le16, qmode := .global, buflen := 0, bitpos := 0, phase := .idle, qscale := 0, mbtotal := 0,
          mb := 0, blk := 0, codecount := 0, esczero := 0, padwarn := false, paddone := false, err := .none,
          lastWord := 0, lastValid := false, hdrHint := 0, hdrQscale := 0, hdrVersion := 0, hdrValid := false,
          buf := m, out := [] }
        Claims.ok0) ∧
  (∀ s : State, ∃ m : Mem,
    exec .encReset s =
      Claims.encNext s
        { order := .le16, phase := .idle, mbtotal := 0, mb := 0, blk := 0, qscale := 0, qvalid := false,
          codecount := 0, wbits := 0, err := .none, version := 2, outlen := 0, wstream := [], obuf := m,
          taken := [] }
        Claims.ok0) ∧
  (∀ s : State, ∃ t : State, Claims.runAll [.decReset, .encReset] s = some t ∧
    t.dec = { State.reset.dec with buf := t.dec.buf } ∧ t.enc = { State.reset.enc with obuf := t.enc.obuf }) ∧
  State.reset.dec.nbits = 0

/-- The DEC registers by number (R11): number and value. `NBITS` is `16·(BUFLEN div 2)`, "computed from `BUFLEN` when
read" (R26, R102): an odd last byte does not count. -/
def Claims.decRegisters (d : Dec) : List (BitVec 8 × Nat) :=
  [(0x00, (if d.order = .be16 then 1 else 0) + (if d.qmode = .perBlock then 2 else 0)),
   (0x01, d.buflen.toNat), (0x02, d.bitpos.toNat), (0x03, 16 * (d.buflen.toNat / 2)),
   (0x04, match d.phase with
     | .idle => 0 | .blockStart => 1 | .readingAc => 2 | .blockDone => 3 | .frameDone => 4 | .fault => 7),
   (0x05, d.qscale.toNat), (0x06, d.mbtotal.toNat), (0x07, d.mb.toNat), (0x08, d.blk.toNat),
   (0x09, d.codecount.toNat), (0x0A, d.esczero.toNat),
   (0x0B, (if d.padwarn then 1 else 0) + (if d.paddone then 2 else 0)),
   (0x0C, match d.err with
     | .none => 0 | .endOfStream => 2 | .readCorruption => 3 | .incompatible => 4 | .tooMuchEnergy => 5
     | .programmingFault => 6),
   (0x0D, d.lastWord.toNat + if d.lastValid then 0x10000 else 0),
   (0x0E, d.hdrHint.toNat), (0x0F, d.hdrQscale.toNat), (0x10, d.hdrVersion.toNat),
   (0x11, if d.hdrValid then 1 else 0)]

/-- The ENC registers by number (R14): number and value. -/
def Claims.encRegisters (e : Enc) : List (BitVec 8 × Nat) :=
  [(0x00, if e.order = .be16 then 1 else 0),
   (0x01, match e.phase with
     | .idle => 0 | .blockStart => 1 | .inBlock => 2 | .frameDone => 4 | .finished => 5 | .fault => 7),
   (0x02, e.mbtotal.toNat), (0x03, e.mb.toNat), (0x04, e.blk.toNat), (0x05, e.qscale.toNat),
   (0x06, if e.qvalid then 1 else 0), (0x07, e.codecount.toNat), (0x08, e.wbits.toNat),
   (0x09, match e.err with
     | .none => 0 | .endOfStream => 2 | .readCorruption => 3 | .incompatible => 4 | .tooMuchEnergy => 5
     | .programmingFault => 6),
   (0x0A, e.version.toNat), (0x0B, e.outlen.toNat)]

/-- Register reads: every register of R11 and R14 in every phase, with the header fields behind `HDR_VALID` except in
`FAULT`; an unknown number raises outside `FAULT`, and in `FAULT` no read raises; nothing is written (R102, R11, R12,
R14, R15, R26). -/
def Obligations.RegisterReadsShowTheRegisters : Prop :=
  (∀ (a b c : Word32) (data : List Byte),
    decodeCommand ⟨0x01, a, b, c, data⟩ = .ok (.decRegRead (a.extractLsb' 0 8)) ∧
    decodeCommand ⟨0x11, a, b, c, data⟩ = .ok (.encRegRead (a.extractLsb' 0 8))) ∧
  (∀ (s : State) (n : BitVec 8) (v : Nat), (n, v) ∈ Claims.decRegisters s.dec →
    (s.dec.phase = .fault ∨ s.dec.hdrValid = true ∨ (n ≠ 0x0E ∧ n ≠ 0x0F ∧ n ≠ 0x10) →
      exec (.decRegRead n) s = Claims.decNext s s.dec (Claims.ok1 (BitVec.ofNat 32 v))) ∧
    (s.dec.phase ≠ .fault → s.dec.hdrValid = false → n = 0x0E ∨ n = 0x0F ∨ n = 0x10 →
      exec (.decRegRead n) s = Claims.decRaises s .programmingFault .programmingFault)) ∧
  (∀ (s : State) (n : BitVec 8), 0x12 ≤ n.toNat → s.dec.phase ≠ .fault →
    exec (.decRegRead n) s = Claims.decRaises s .programmingFault .programmingFault) ∧
  (∀ (s : State) (n : BitVec 8), s.dec.phase = .fault → ∃ t : State, exec (.decRegRead n) s = .next t ∧ t.dec = s.dec) ∧
  (∀ (s : State) (n : BitVec 8), s.dec.Inv → s.dec.phase = .fault → s.dec.hdrValid = false →
    n = 0x0E ∨ n = 0x0F ∨ n = 0x10 → exec (.decRegRead n) s = Claims.decNext s s.dec (Claims.ok1 0)) ∧
  (∀ (s : State) (n : BitVec 8), s.enc.phase = .fault → ∃ t : State, exec (.encRegRead n) s = .next t ∧ t.enc = s.enc) ∧
  (∀ (s : State) (n : BitVec 8) (v : Nat), (n, v) ∈ Claims.encRegisters s.enc →
    exec (.encRegRead n) s = Claims.encNext s s.enc (Claims.ok1 (BitVec.ofNat 32 v))) ∧
  (∀ (s : State) (n : BitVec 8), 0x0C ≤ n.toNat → s.enc.phase ≠ .fault →
    exec (.encRegRead n) s = Claims.encRaises s .programmingFault .programmingFault)

/-- A read of an unknown register in `FAULT` does not raise (R102, R111) and answers OK with some value: which one, the
spec does not state, and the model leaves it free (its own choice, assumption log 9). -/
def Obligations.UnknownRegisterInFaultDoesNotRaise : Prop :=
  ∀ (s : State) (n : BitVec 8),
    (s.dec.phase = .fault → 0x12 ≤ n.toNat →
      ∃ (t : State) (v : Word32), exec (.decRegRead n) s = .next t ∧ t.dec = s.dec ∧ t.enc = s.enc ∧
        t.port = ⟨s.port.pending.tail, some (Claims.ok1 v)⟩) ∧
    (s.enc.phase = .fault → 0x0C ≤ n.toNat →
      ∃ (t : State) (v : Word32), exec (.encRegRead n) s = .next t ∧ t.dec = s.dec ∧ t.enc = s.enc ∧
        t.port = ⟨s.port.pending.tail, some (Claims.ok1 v)⟩)

/-! ## Errors -/

/-- The fault gate: a unit in `FAULT` answers every command to it `(ERR)` and changes nothing, but for its reset, its
register read and the commands that begin a new attempt; the same for every command word, legal or not, that a step
finds on the port (R105). -/
def Obligations.FaultGateHolds : Prop :=
  (∀ (i : Instr) (s : State), i.position = .command →
    (Claims.isEncCommand i = false → s.dec.phase = .fault → i ≠ .decReset → (∀ n, i ≠ .decRegRead n) →
      (∀ order offset data, i ≠ .brInit order offset data) →
      exec i s = Claims.decNext s s.dec (Claims.bare s.dec.err.status)) ∧
    (Claims.isEncCommand i = true → s.enc.phase = .fault → i ≠ .encReset → (∀ n, i ≠ .encRegRead n) →
      (∀ order, i ≠ .bwInit order) → (∀ mbtotal version, i ≠ .encStart mbtotal version) →
      exec i s = Claims.encNext s s.enc (Claims.bare s.enc.err.status))) ∧
  (∀ (s : State) (c : Command) (cs : List Command), s.port.pending = c :: cs →
    (c.cmd.getLsbD 4 = false → s.dec.phase = .fault → c.cmd ≠ 0x00 → c.cmd ≠ 0x01 → c.cmd ≠ 0x02 →
      step s = Claims.decNext s s.dec (Claims.bare s.dec.err.status)) ∧
    (c.cmd.getLsbD 4 = true → s.enc.phase = .fault → c.cmd ≠ 0x10 → c.cmd ≠ 0x11 → c.cmd ≠ 0x12 → c.cmd ≠ 0x17 →
      step s = Claims.encNext s s.enc (Claims.bare s.enc.err.status)))

/-- A raise rolls the whole action back: an instruction after which the unit is newly at fault has changed nothing but
`ERR` and `PHASE`, and its response is the error alone. (`DEC_SKIP_MB`, whose action is one step, is stated with its
loop.) (R104, R106). -/
def Obligations.RaiseRollsBack : Prop :=
  ∀ (i : Instr) (s t : State), exec i s = .next t →
    (i ≠ .decSkipMb → s.dec.phase ≠ .fault → t.dec.phase = .fault →
      t.dec.err ≠ .none ∧ t.dec = { s.dec with err := t.dec.err, phase := .fault } ∧ t.enc = s.enc ∧
      t.port.resp = some (Claims.bare t.dec.err.status)) ∧
    (s.enc.phase ≠ .fault → t.enc.phase = .fault →
      t.enc.err ≠ .none ∧ t.enc = { s.enc with err := t.enc.err, phase := .fault } ∧ t.dec = s.dec ∧
      t.port.resp = some (Claims.bare t.enc.err.status))

/-- Which instructions raise which error (R103): `EndOfStream` only where bits are read, `ReadCorruption` only where an AC
code or a DC field is decoded, `Incompatible` only in `ENC_PUT` and `ENC_FINISH`, `TooMuchEnergy` never. -/
def Obligations.ErrorsComeFromTheirCommands : Prop :=
  ∀ (i : Instr) (s t : State), exec i s = .next t →
    (s.dec.phase ≠ .fault → t.dec.phase = .fault →
      (t.dec.err = .programmingFault ∨
        (t.dec.err = .endOfStream ∧
          (i.position ≠ .command ∨ (∃ n, i = .brReadU n) ∨ (∃ n, i = .brReadS n) ∨ i = .cbDecode ∨ i = .decStep ∨
            i = .decSkipMb ∨ i = .decSkipPadding)) ∨
        (t.dec.err = .readCorruption ∧
          (i.position = .ac ∨ i.position = .dcGlobal ∨ i.position = .dcPerBlock ∨ i = .cbDecode ∨ i = .decStep ∨
            i = .decSkipMb)))) ∧
    (s.enc.phase ≠ .fault → t.enc.phase = .fault →
      (t.enc.err = .programmingFault ∨
        (t.enc.err = .incompatible ∧ ((∃ w, i = .encPut w) ∨ i = .encFinish))))

/-- The status flags are sticky: each is cleared only by the reset, init or start of its unit, `HDR_VALID` also by
`HDR_PARSE` (R18). `ESCZERO` moves only where codes are decoded, and there it only counts up, by at most one for each
22 bits consumed (an escape, R45). An `ERR` that is set keeps its code until the reset or init of its unit, or
`ENC_START` (R105). -/
def Obligations.StatusFlagsAreSticky : Prop :=
  ∀ (i : Instr) (s t : State), s.dec.Inv → exec i s = .next t →
    ((∀ qmode qscale mbtotal, i ≠ .decStart qmode qscale mbtotal) → i ≠ .decReset →
      (∀ order offset data, i ≠ .brInit order offset data) →
      (s.dec.padwarn = true → t.dec.padwarn = true) ∧ (s.dec.paddone = true → t.dec.paddone = true) ∧
      (i ≠ .hdrParse → t.dec.hdrValid = s.dec.hdrValid) ∧
      ((∀ r l, i ≠ .esc r l) → i ≠ .decStep → i ≠ .decSkipMb → t.dec.esczero = s.dec.esczero) ∧
      ((∃ r l, i = .esc r l) ∨ i = .decStep ∨ i = .decSkipMb →
        ∃ n : Nat, t.dec.esczero = s.dec.esczero + BitVec.ofNat 32 n ∧
          s.dec.bitpos.toNat + 22 * n ≤ t.dec.bitpos.toNat)) ∧
    (i ≠ .decReset → (∀ order offset data, i ≠ .brInit order offset data) →
      s.dec.err ≠ .none → t.dec.err = s.dec.err) ∧
    (i ≠ .encReset → (∀ order, i ≠ .bwInit order) → (∀ mbtotal version, i ≠ .encStart mbtotal version) →
      s.enc.Inv → s.enc.err ≠ .none → t.enc.err = s.enc.err) ∧
    (i ≠ .encReset → (∀ order, i ≠ .bwInit order) → (∀ mbtotal version, i ≠ .encStart mbtotal version) →
      s.enc.qvalid = true → t.enc.qvalid = true)

/-! ## The whole machine -/

/-- The units share no state: an instruction of one leaves the other as it was, and what it does does not depend on the
other (R9, R36, R37). -/
def Obligations.UnitsShareNothing : Prop :=
  ∀ (i : Instr) (s t : State), exec i s = .next t →
    (Claims.isEncCommand i = false →
      t.enc = s.enc ∧ ∀ e : Enc, exec i (s.withEnc e) = .next (t.withEnc e)) ∧
    (Claims.isEncCommand i = true →
      t.dec = s.dec ∧ ∀ d : Dec, exec i (s.withDec d) = .next (t.withDec d))

/-- The invariants of R13 and R17, the block structure of R84, the canonical form of the memories and the error codes
hold after every step that starts where they hold. -/
def Obligations.StepKeepsTheInvariant : Prop :=
  ∀ s t : State, s.Inv → step s = .next t → t.Inv

/-- The invariant holds at power-on. -/
def Obligations.InvariantHoldsAtReset : Prop :=
  State.reset.Inv
end

