-- ==== Sys2Proof/Laws/Bits.lean ====
section
/-! SUPPORT. Laws of bit strings: lengths, round trips between numbers and bit strings, the fields of a code word. -/

namespace Sys2Proof.Machine

@[simp] theorem natToBits_length (n v : Nat) : (natToBits n v).length = n := by
  induction n with
  | zero => rfl
  | succ n ih => simp [natToBits, ih]

@[simp] theorem wordBits_length {n : Nat} (v : BitVec n) : (wordBits v).length = n :=
  natToBits_length n v.toNat

theorem bitsToNat_foldl (b : Bits) (acc : Nat) :
    b.foldl (fun acc x => 2 * acc + x.toNat) acc = acc * 2 ^ b.length + bitsToNat b := by
  induction b generalizing acc with
  | nil => simp [bitsToNat]
  | cons x b ih =>
    have h0 := ih (2 * acc + x.toNat)
    have h1 := ih (2 * 0 + x.toNat)
    simp only [List.foldl_cons, bitsToNat, List.length_cons] at h0 h1 ⊢
    rw [h0, h1, pow_succ]
    ring

@[simp] theorem bitsToNat_nil : bitsToNat [] = 0 := rfl

theorem bitsToNat_cons (x : Bool) (b : Bits) : bitsToNat (x :: b) = x.toNat * 2 ^ b.length + bitsToNat b := by
  have h := bitsToNat_foldl b (2 * 0 + x.toNat)
  simpa [bitsToNat] using h

theorem bitsToNat_append (a b : Bits) : bitsToNat (a ++ b) = bitsToNat a * 2 ^ b.length + bitsToNat b := by
  simp only [bitsToNat, List.foldl_append]
  exact bitsToNat_foldl b _

theorem bitsToNat_lt (b : Bits) : bitsToNat b < 2 ^ b.length := by
  induction b with
  | nil => simp
  | cons x b ih =>
    rw [bitsToNat_cons, List.length_cons, pow_succ]
    cases x <;> (simp; omega)

/-- A number's `n` low bits, written and read back. -/
theorem bitsToNat_natToBits (n v : Nat) : bitsToNat (natToBits n v) = v % 2 ^ n := by
  induction n with
  | zero => simp [natToBits, Nat.mod_one]
  | succ n ih =>
    rw [natToBits, bitsToNat_cons, natToBits_length, ih, Nat.testBit_eq_decide_div_mod_eq, Nat.pow_succ,
      Nat.mod_mul]
    rcases Nat.mod_two_eq_zero_or_one (v / 2 ^ n) with h | h
    · simp [h]
    · simp [h]; omega

@[simp] theorem bitsToNat_wordBits {n : Nat} (v : BitVec n) : bitsToNat (wordBits v) = v.toNat := by
  rw [wordBits, bitsToNat_natToBits, Nat.mod_eq_of_lt v.isLt]

theorem natToBits_mod (n v k : Nat) : natToBits n (v % 2 ^ (n + k)) = natToBits n v := by
  induction n generalizing k with
  | zero => rfl
  | succ n ih =>
    have h := ih (k + 1)
    rw [show n + 1 + k = n + (k + 1) by omega]
    simp only [natToBits, h, List.cons.injEq, and_true]
    simp [Nat.testBit_mod_two_pow]

/-- A bit string, read as a number and written back. -/
theorem natToBits_bitsToNat (b : Bits) : natToBits b.length (bitsToNat b) = b := by
  induction b with
  | nil => rfl
  | cons x b ih =>
    have hlt := bitsToNat_lt b
    have hlow : natToBits b.length (bitsToNat (x :: b)) = b := by
      rw [bitsToNat_cons, ← natToBits_mod b.length _ 0]
      simp only [Nat.add_zero, Nat.mul_add_mod_self_right, Nat.mod_eq_of_lt hlt]
      exact ih
    have hhigh : (bitsToNat (x :: b)).testBit b.length = x := by
      rw [Nat.testBit_eq_decide_div_mod_eq, bitsToNat_cons, Nat.add_comm, Nat.add_mul_div_right _ _ (by positivity),
        Nat.div_eq_of_lt hlt]
      cases x <;> simp
    simp only [List.length_cons, natToBits, hhigh, hlow]

theorem natToBits_append (a b : Nat) (u v : Nat) (h : v < 2 ^ b) :
    natToBits a u ++ natToBits b v = natToBits (a + b) (u * 2 ^ b + v) := by
  have e1 : (natToBits a u ++ natToBits b v).length = a + b := by simp
  have e2 : bitsToNat (natToBits a u ++ natToBits b v) = u % 2 ^ a * 2 ^ b + v := by
    rw [bitsToNat_append, bitsToNat_natToBits, bitsToNat_natToBits, natToBits_length, Nat.mod_eq_of_lt h]
  have e3 := natToBits_bitsToNat (natToBits a u ++ natToBits b v)
  rw [e1, e2] at e3
  rw [← e3, ← natToBits_mod (a + b) (u * 2 ^ b + v) 0, Nat.add_zero]
  congr 1
  rw [Nat.pow_add, Nat.mul_comm (2 ^ a), Nat.mod_mul, Nat.add_comm (u * 2 ^ b) v, Nat.add_mul_mod_self_right,
    Nat.add_mul_div_right _ _ (by positivity), Nat.div_eq_of_lt h, Nat.zero_add, Nat.mod_eq_of_lt h]
  ring

/-! ## The fields of a code word -/

theorem pack_toNat (t : BitVec 6) (b : BitVec 10) : (pack t b).toNat = t.toNat * 1024 + b.toNat := by
  have := t.isLt
  have := b.isLt
  unfold pack
  rw [BitVec.toNat_append, ← Nat.shiftLeft_add_eq_or_of_lt (by omega), Nat.shiftLeft_eq]

theorem topField_toNat (w : Code) : (topField w).toNat = w.toNat / 1024 := by
  have := w.isLt
  simp [topField, Nat.shiftRight_eq_div_pow]
  omega

theorem bottomField_toNat (w : Code) : (bottomField w).toNat = w.toNat % 1024 := by
  simp [bottomField]

@[simp] theorem topField_pack (t : BitVec 6) (b : BitVec 10) : topField (pack t b) = t := by
  apply BitVec.eq_of_toNat_eq
  have := b.isLt
  rw [topField_toNat, pack_toNat]
  omega

@[simp] theorem bottomField_pack (t : BitVec 6) (b : BitVec 10) : bottomField (pack t b) = b := by
  apply BitVec.eq_of_toNat_eq
  have := b.isLt
  rw [bottomField_toNat, pack_toNat]
  omega

@[simp] theorem pack_fields (w : Code) : pack (topField w) (bottomField w) = w := by
  apply BitVec.eq_of_toNat_eq
  rw [pack_toNat, topField_toNat, bottomField_toNat]
  omega

/-- The 16 bits of a code word are its top field's six and its bottom field's ten (R43, R45). -/
theorem wordBits_pack (t : BitVec 6) (b : BitVec 10) : wordBits (pack t b) = wordBits t ++ wordBits b := by
  have h := natToBits_append 6 10 t.toNat b.toNat b.isLt
  unfold wordBits
  rw [h, pack_toNat]
  rfl

end Sys2Proof.Machine
end

