-- ==== Sys2Proof/Laws/Memory.lean ====
section
/-! SUPPORT. Laws of the byte memories: the canonical form is kept by every operation; a write is read back and
leaves every other byte alone; a loaded byte sequence reads as it was given. -/

namespace Sys2Proof.Machine

theorem cellsWf_mono {lo lo' : Nat} {cs : List Host.Cell} (h : cellsWf lo cs = true) (hl : lo' ≤ lo) :
    cellsWf lo' cs = true := by
  cases cs with
  | nil => rfl
  | cons c cs =>
    simp only [cellsWf, Bool.and_eq_true, decide_eq_true_eq] at h ⊢
    exact ⟨⟨by omega, h.1.2⟩, h.2⟩

theorem readCells_below {lo a : Nat} {cs : List Host.Cell} (h : cellsWf lo cs = true) (ha : a < lo) :
    readCells a cs = Mem.fill := by
  induction cs generalizing lo with
  | nil => rfl
  | cons c cs ih =>
    simp only [cellsWf, Bool.and_eq_true, decide_eq_true_eq] at h
    rw [readCells, if_neg (by omega)]
    exact ih h.2 (by omega)

theorem writeCells_wf {lo a : Nat} {b : Byte} {cs : List Host.Cell} (h : cellsWf lo cs = true) (ha : lo ≤ a) :
    cellsWf lo (writeCells a b cs) = true := by
  induction cs generalizing lo with
  | nil =>
    by_cases hb : b = Mem.fill
    · simp [writeCells, hb, cellsWf]
    · simp [writeCells, hb, cellsWf, ha]
  | cons c cs ih =>
    obtain ⟨k, v⟩ := c
    have h' := h
    simp only [cellsWf, Bool.and_eq_true, decide_eq_true_eq] at h'
    obtain ⟨⟨hk, hv⟩, hrest⟩ := h'
    unfold writeCells
    split
    · by_cases hb : b = Mem.fill
      · rw [if_pos hb]; exact h
      · simp [hb, cellsWf, ha, hrest, show a + 1 ≤ k by omega] at hv ⊢
        exact hv
    · split
      · by_cases hb : b = Mem.fill
        · rw [if_pos hb]; exact cellsWf_mono hrest (by omega)
        · subst_vars
          simp [hb, cellsWf, ha, hrest]
      · have := ih hrest (by omega)
        simp only [cellsWf, Bool.and_eq_true, decide_eq_true_eq]
        exact ⟨⟨hk, hv⟩, this⟩

/-- A write keeps the canonical form. -/
theorem Mem.write_wf {m : Mem} (h : m.wf = true) (a : Nat) (b : Byte) : (m.write a b).wf = true :=
  writeCells_wf h (Nat.zero_le a)

/-- Writing a byte sequence keeps the canonical form. -/
theorem Mem.writeBytes_wf {m : Mem} (h : m.wf = true) (a : Nat) (bs : List Byte) : (m.writeBytes a bs).wf = true := by
  induction bs generalizing m a with
  | nil => exact h
  | cons b bs ih => exact ih (Mem.write_wf h a b) (a + 1)

theorem cellsOfBytes_wf (a : Nat) (bs : List Byte) : cellsWf a (cellsOfBytes a bs) = true := by
  induction bs generalizing a with
  | nil => rfl
  | cons b bs ih =>
    unfold cellsOfBytes
    split
    · exact cellsWf_mono (ih (a + 1)) (by omega)
    · rename_i hb
      simp [cellsWf, hb, ih (a + 1)]

/-- A loaded byte sequence is in canonical form. -/
theorem Mem.ofBytes_wf (bs : List Byte) : (Mem.ofBytes bs).wf = true :=
  cellsOfBytes_wf 0 bs

@[simp] theorem Mem.empty_wf : Mem.empty.wf = true := rfl

@[simp] theorem Mem.empty_read (a : Nat) : Mem.empty.read a = Mem.fill := rfl

theorem readCells_write_ne {a c : Nat} {b : Byte} {cs : List Host.Cell} (h : c ≠ a) :
    readCells c (writeCells a b cs) = readCells c cs := by
  induction cs with
  | nil => by_cases hb : b = Mem.fill <;> simp [writeCells, hb, readCells, Ne.symm h]
  | cons x cs ih =>
    obtain ⟨k, v⟩ := x
    unfold writeCells
    split
    · by_cases hb : b = Mem.fill
      · rw [if_pos hb]
      · rw [if_neg hb, readCells, if_neg (Ne.symm h)]
    · split
      · subst_vars
        by_cases hb : b = Mem.fill
        · rw [if_pos hb, readCells, if_neg (Ne.symm h)]
        · rw [if_neg hb, readCells, readCells, if_neg (Ne.symm h), if_neg (Ne.symm h)]
      · rw [readCells, readCells, ih]

theorem readCells_write_same {lo a : Nat} {b : Byte} {cs : List Host.Cell} (h : cellsWf lo cs = true) :
    readCells a (writeCells a b cs) = b := by
  induction cs generalizing lo with
  | nil => by_cases hb : b = Mem.fill <;> simp [writeCells, hb, readCells]
  | cons x cs ih =>
    obtain ⟨k, v⟩ := x
    have h' := h
    simp only [cellsWf, Bool.and_eq_true, decide_eq_true_eq] at h'
    unfold writeCells
    split
    · by_cases hb : b = Mem.fill
      · rw [if_pos hb, hb, readCells, if_neg (by omega)]
        exact readCells_below h'.2 (by omega)
      · rw [if_neg hb, readCells, if_pos rfl]
    · split
      · subst_vars
        by_cases hb : b = Mem.fill
        · rw [if_pos hb, hb]
          exact readCells_below h'.2 (by omega)
        · rw [if_neg hb, readCells, if_pos rfl]
      · rename_i hne
        rw [readCells, if_neg (Ne.symm hne)]
        exact ih h'.2

/-- A byte written is read back (of a memory in canonical form). -/
theorem Mem.read_write_same {m : Mem} (h : m.wf = true) (a : Nat) (b : Byte) : (m.write a b).read a = b :=
  readCells_write_same h

/-- A write leaves every other byte alone. -/
theorem Mem.read_write_ne (m : Mem) {a c : Nat} (b : Byte) (h : c ≠ a) : (m.write a b).read c = m.read c :=
  readCells_write_ne h

/-- Bytes outside the written range are left alone. -/
theorem Mem.read_writeBytes_out (m : Mem) {a c : Nat} (bs : List Byte) (h : c < a ∨ a + bs.length ≤ c) :
    (m.writeBytes a bs).read c = m.read c := by
  induction bs generalizing m a with
  | nil => rfl
  | cons b bs ih =>
    simp only [List.length_cons] at h
    rw [Mem.writeBytes, ih (m.write a b) (by omega), Mem.read_write_ne m b (by omega)]

/-- A written byte sequence is read back. -/
theorem Mem.read_writeBytes_in {m : Mem} (h : m.wf = true) (a i : Nat) (bs : List Byte) (hi : i < bs.length) :
    (m.writeBytes a bs).read (a + i) = bs[i] := by
  induction bs generalizing m a i with
  | nil => simp at hi
  | cons b bs ih =>
    rw [Mem.writeBytes]
    cases i with
    | zero => rw [Mem.read_writeBytes_out _ _ (by omega), Nat.add_zero, Mem.read_write_same h]; rfl
    | succ i =>
      have := ih (Mem.write_wf h a b) (a + 1) i (by simpa using hi)
      rw [show a + (i + 1) = a + 1 + i by omega, this]
      rfl

theorem readCells_ofBytes (a i : Nat) (bs : List Byte) :
    readCells (a + i) (cellsOfBytes a bs) = bs[i]?.getD Mem.fill := by
  induction bs generalizing a i with
  | nil => rfl
  | cons b bs ih =>
    cases i with
    | zero =>
      unfold cellsOfBytes
      split
      · rename_i hb
        rw [readCells_below (cellsOfBytes_wf (a + 1) bs) (by omega)]
        simp [hb]
      · simp [readCells]
    | succ i =>
      have h := ih (a + 1) i
      unfold cellsOfBytes
      split
      · rw [show a + (i + 1) = a + 1 + i by omega, h]; simp
      · rw [readCells, if_neg (by omega), show a + (i + 1) = a + 1 + i by omega, h]; simp

/-- Byte `i` of a loaded sequence; the fill past its end. -/
theorem Mem.read_ofBytes (bs : List Byte) (i : Nat) : (Mem.ofBytes bs).read i = bs[i]?.getD Mem.fill := by
  have h := readCells_ofBytes 0 i bs
  rwa [Nat.zero_add] at h

@[simp] theorem Mem.bytes_length (m : Mem) (n : Nat) : (m.bytes n).length = n := by simp [Mem.bytes]

/-- Both memories are in canonical form at power-on. -/
theorem State.reset_memories_wf : State.reset.dec.buf.wf = true ∧ State.reset.enc.obuf.wf = true := ⟨rfl, rfl⟩

end Sys2Proof.Machine
end

