-- ==== Sys2Proof/Laws/State.lean ====
section
/-! SUPPORT. The small lemmas of the state: one per field and update, all true by unfolding. -/

namespace Sys2Proof.Machine

section StateFields
variable (s : State) (d : Dec) (e : Enc) (r : Response) (er : ErrCode)

@[simp] theorem State.withDec_dec : (s.withDec d).dec = d := rfl
@[simp] theorem State.withDec_enc : (s.withDec d).enc = s.enc := rfl
@[simp] theorem State.withDec_port : (s.withDec d).port = s.port := rfl
@[simp] theorem State.withDec_free : (s.withDec d).free = s.free := rfl
@[simp] theorem State.withEnc_dec : (s.withEnc e).dec = s.dec := rfl
@[simp] theorem State.withEnc_enc : (s.withEnc e).enc = e := rfl
@[simp] theorem State.withEnc_port : (s.withEnc e).port = s.port := rfl
@[simp] theorem State.withEnc_free : (s.withEnc e).free = s.free := rfl
@[simp] theorem State.nextFree_dec : s.nextFree.dec = s.dec := rfl
@[simp] theorem State.nextFree_enc : s.nextFree.enc = s.enc := rfl
@[simp] theorem State.nextFree_port : s.nextFree.port = s.port := rfl
@[simp] theorem State.nextFree_free : s.nextFree.free = s.free + 1 := rfl
@[simp] theorem State.respond_dec : (s.respond r).dec = s.dec := rfl
@[simp] theorem State.respond_enc : (s.respond r).enc = s.enc := rfl
@[simp] theorem State.respond_pending : (s.respond r).port.pending = s.port.pending.tail := rfl
@[simp] theorem State.respond_resp : (s.respond r).port.resp = some r := rfl
@[simp] theorem State.respond_free : (s.respond r).free = s.free := rfl
@[simp] theorem State.raiseDec_dec : (s.raiseDec er).dec = { s.dec with err := er, phase := .fault } := rfl
@[simp] theorem State.raiseDec_enc : (s.raiseDec er).enc = s.enc := rfl
@[simp] theorem State.raiseDec_pending : (s.raiseDec er).port.pending = s.port.pending.tail := rfl
@[simp] theorem State.raiseDec_resp : (s.raiseDec er).port.resp = some (respStatus er.status) := rfl
@[simp] theorem State.raiseDec_free : (s.raiseDec er).free = s.free := rfl
@[simp] theorem State.raiseEnc_enc : (s.raiseEnc er).enc = { s.enc with err := er, phase := .fault } := rfl
@[simp] theorem State.raiseEnc_dec : (s.raiseEnc er).dec = s.dec := rfl
@[simp] theorem State.raiseEnc_pending : (s.raiseEnc er).port.pending = s.port.pending.tail := rfl
@[simp] theorem State.raiseEnc_resp : (s.raiseEnc er).port.resp = some (respStatus er.status) := rfl
@[simp] theorem State.raiseEnc_free : (s.raiseEnc er).free = s.free := rfl
@[simp] theorem State.gatedDec_dec : s.gatedDec.dec = s.dec := rfl
@[simp] theorem State.gatedDec_enc : s.gatedDec.enc = s.enc := rfl
@[simp] theorem State.gatedDec_pending : s.gatedDec.port.pending = s.port.pending.tail := rfl
@[simp] theorem State.gatedDec_resp : s.gatedDec.port.resp = some (respStatus s.dec.err.status) := rfl
@[simp] theorem State.gatedDec_free : s.gatedDec.free = s.free := rfl
@[simp] theorem State.gatedEnc_dec : s.gatedEnc.dec = s.dec := rfl
@[simp] theorem State.gatedEnc_enc : s.gatedEnc.enc = s.enc := rfl
@[simp] theorem State.gatedEnc_pending : s.gatedEnc.port.pending = s.port.pending.tail := rfl
@[simp] theorem State.gatedEnc_resp : s.gatedEnc.port.resp = some (respStatus s.enc.err.status) := rfl
@[simp] theorem State.gatedEnc_free : s.gatedEnc.free = s.free := rfl
@[simp] theorem State.finishDec_ok : s.finishDec (.ok (r, d)) = (s.withDec d).respond r := rfl
@[simp] theorem State.finishDec_error : s.finishDec (.error er) = s.raiseDec er := rfl
@[simp] theorem State.finishEnc_ok : s.finishEnc (.ok (r, e)) = (s.withEnc e).respond r := rfl
@[simp] theorem State.finishEnc_error : s.finishEnc (.error er) = s.raiseEnc er := rfl

end StateFields

section DecFields
variable (d : Dec) (n v : Nat) (w : Code)

@[simp] theorem Dec.advance_bitpos : (d.advance n).bitpos = d.bitpos + BitVec.ofNat 32 n := rfl
@[simp] theorem Dec.advance_buf : (d.advance n).buf = d.buf := rfl
@[simp] theorem Dec.advance_buflen : (d.advance n).buflen = d.buflen := rfl
@[simp] theorem Dec.advance_order : (d.advance n).order = d.order := rfl
@[simp] theorem Dec.advance_qmode : (d.advance n).qmode = d.qmode := rfl
@[simp] theorem Dec.advance_qscale : (d.advance n).qscale = d.qscale := rfl
@[simp] theorem Dec.advance_phase : (d.advance n).phase = d.phase := rfl
@[simp] theorem Dec.advance_paddone : (d.advance n).paddone = d.paddone := rfl
@[simp] theorem Dec.advance_err : (d.advance n).err = d.err := rfl
@[simp] theorem Dec.advance_out : (d.advance n).out = d.out := rfl
@[simp] theorem Dec.advance_nbits : (d.advance n).nbits = d.nbits := rfl
@[simp] theorem Dec.advance_streamBit (p : Nat) : (d.advance n).streamBit p = d.streamBit p := rfl
@[simp] theorem Dec.advance_streamBits (p m : Nat) : (d.advance n).streamBits p m = d.streamBits p m := rfl

@[simp] theorem Dec.emit_out : (d.emit w).out = d.out ++ [w] := rfl
@[simp] theorem Dec.emit_codecount : (d.emit w).codecount = d.codecount + 1 := rfl
@[simp] theorem Dec.emit_lastWord : (d.emit w).lastWord = w := rfl
@[simp] theorem Dec.emit_lastValid : (d.emit w).lastValid = true := rfl
@[simp] theorem Dec.emit_bitpos : (d.emit w).bitpos = d.bitpos := rfl
@[simp] theorem Dec.emit_buf : (d.emit w).buf = d.buf := rfl
@[simp] theorem Dec.emit_buflen : (d.emit w).buflen = d.buflen := rfl
@[simp] theorem Dec.emit_nbits : (d.emit w).nbits = d.nbits := rfl
@[simp] theorem Dec.emit_phase : (d.emit w).phase = d.phase := rfl
@[simp] theorem Dec.emit_err : (d.emit w).err = d.err := rfl

@[simp] theorem Dec.setPadding_padwarn : (d.setPadding v).padwarn = (v != bitsToNat Config.trailer) := rfl
@[simp] theorem Dec.setPadding_paddone : (d.setPadding v).paddone = true := rfl
@[simp] theorem Dec.setPadding_phase : (d.setPadding v).phase = d.phase := rfl
@[simp] theorem Dec.setPadding_bitpos : (d.setPadding v).bitpos = d.bitpos := rfl
@[simp] theorem Dec.setPadding_buf : (d.setPadding v).buf = d.buf := rfl

@[simp] theorem Dec.latchHeader_hint : d.latchHeader.hdrHint = d.u16 0 := rfl
@[simp] theorem Dec.latchHeader_qscale : d.latchHeader.hdrQscale = d.u16 4 := rfl
@[simp] theorem Dec.latchHeader_version : d.latchHeader.hdrVersion = d.u16 6 := rfl
@[simp] theorem Dec.latchHeader_valid : d.latchHeader.hdrValid = true := rfl
@[simp] theorem Dec.latchHeader_bitpos : d.latchHeader.bitpos = d.bitpos := rfl
@[simp] theorem Dec.clearHeader_valid : d.clearHeader.hdrValid = false := rfl
@[simp] theorem Dec.clearHeader_bitpos : d.clearHeader.bitpos = d.bitpos := rfl

end DecFields

section EncFields
variable (e : Enc) (w : Code) (n : Nat)

@[simp] theorem Enc.take_codecount : (e.take w).codecount = e.codecount + 1 := rfl
@[simp] theorem Enc.take_taken : (e.take w).taken = e.taken ++ [w] := rfl
@[simp] theorem Enc.take_wstream : (e.take w).wstream = e.wstream := rfl
@[simp] theorem Enc.take_wbits : (e.take w).wbits = e.wbits := rfl
@[simp] theorem Enc.take_obuf : (e.take w).obuf = e.obuf := rfl
@[simp] theorem Enc.take_phase : (e.take w).phase = e.phase := rfl
@[simp] theorem Enc.storeWords_wstream : (e.storeWords n).wstream = e.wstream := rfl
@[simp] theorem Enc.storeWords_wbits : (e.storeWords n).wbits = e.wbits := rfl
@[simp] theorem Enc.storeWords_phase : (e.storeWords n).phase = e.phase := rfl
@[simp] theorem Enc.storeWords_order : (e.storeWords n).order = e.order := rfl
@[simp] theorem Enc.storeWords_taken : (e.storeWords n).taken = e.taken := rfl

end EncFields

end Sys2Proof.Machine
end

