-- ==== Sys2Proof/Laws/Ops.lean ====
section
/-! SUPPORT. One lemma per shared operation that says everything it can do: the bit reader and writer, the gate,
and the unit-level commands. -/

namespace Sys2Proof.Machine

/-! ## The reader -/

@[simp] theorem Dec.streamBits_length (d : Dec) (p n : Nat) : (d.streamBits p n).length = n := by
  simp [Dec.streamBits]

@[simp] theorem Dec.streamBits_zero (d : Dec) (p : Nat) : d.streamBits p 0 = [] := rfl

/-- The bits from `p` on are the first `m` of them and the rest. -/
theorem Dec.streamBits_add (d : Dec) (p m n : Nat) :
    d.streamBits p (m + n) = d.streamBits p m ++ d.streamBits (p + m) n := by
  simp [Dec.streamBits, List.range_add, Function.comp_def, Nat.add_assoc]

theorem Dec.streamBits_one (d : Dec) (p : Nat) : d.streamBits p 1 = [d.streamBit p] := rfl

theorem Dec.streamBits_cons (d : Dec) (p n : Nat) :
    d.streamBits p (n + 1) = d.streamBit p :: d.streamBits (p + 1) n := by
  rw [Nat.add_comm, Dec.streamBits_add]
  rfl

theorem Dec.streamBits_getElem (d : Dec) (p n i : Nat) (h : i < (d.streamBits p n).length) :
    (d.streamBits p n)[i] = d.streamBit (p + i) := by
  simp [Dec.streamBits]

/-- The derived register `NBITS`, as a number (R11, R26). -/
theorem Dec.nbits_toNat (d : Dec) : d.nbits.toNat = 16 * (d.buflen.toNat / 2) % 2 ^ 32 := by
  simp [Dec.nbits, BitVec.toNat_mul, BitVec.toNat_udiv]

/-- `NBITS` of a buffer within the limit of R4 (R26). -/
theorem Dec.nbits_of_small {d : Dec} (h : 8 * d.buflen.toNat < 2 ^ 32) :
    d.nbits.toNat = 16 * (d.buflen.toNat / 2) := by
  rw [Dec.nbits_toNat, Nat.mod_eq_of_lt (by omega)]

/-- `short` is the test of R57. -/
theorem Dec.short_iff (d : Dec) (n : Nat) : d.short n = true ↔ d.nbits.toNat < d.bitpos.toNat + n := by
  simp [Dec.short]

theorem Dec.not_short_iff (d : Dec) (n : Nat) : d.short n = false ↔ d.bitpos.toNat + n ≤ d.nbits.toNat := by
  simp [Dec.short]

/-- The cursor moves by exactly `n` and does not wrap (R57, R58). -/
theorem Dec.advance_toNat {d : Dec} {n : Nat} (h : d.bitpos.toNat + n ≤ d.nbits.toNat) :
    (d.advance n).bitpos.toNat = d.bitpos.toNat + n := by
  have := d.nbits.isLt
  simp only [Dec.advance_bitpos, BitVec.toNat_add, BitVec.toNat_ofNat]
  omega

@[simp] theorem Dec.advance_zero (d : Dec) : d.advance 0 = d := by
  simp [Dec.advance]

@[simp] theorem Dec.advance_advance (d : Dec) (m n : Nat) : (d.advance m).advance n = d.advance (m + n) := by
  simp only [Dec.advance, Dec.mk.injEq, true_and, and_true]
  rw [BitVec.add_assoc, ← BitVec.ofNat_add]

/-- `ReadBits(n)` where the bits are there (R57). -/
theorem Dec.readBits_ok {d : Dec} {n : Nat} (h : d.bitpos.toNat + n ≤ d.nbits.toNat) :
    d.readBits n = .ok (bitsToNat (d.streamBits d.bitpos.toNat n), d.advance n) := by
  rw [Dec.readBits, (Dec.not_short_iff d n).2 h]
  rfl

/-- `ReadBits(n)` where they are not (R57). -/
theorem Dec.readBits_error {d : Dec} {n : Nat} (h : d.nbits.toNat < d.bitpos.toNat + n) :
    d.readBits n = .error .endOfStream := by
  rw [Dec.readBits, (Dec.short_iff d n).2 h]
  rfl

/-- Everything `ReadBits(n)` can answer. -/
theorem Dec.readBits_cases (d : Dec) (n : Nat) :
    (d.nbits.toNat < d.bitpos.toNat + n ∧ d.readBits n = .error .endOfStream) ∨
    (d.bitpos.toNat + n ≤ d.nbits.toNat ∧
      d.readBits n = .ok (bitsToNat (d.streamBits d.bitpos.toNat n), d.advance n)) := by
  rcases Nat.lt_or_ge d.nbits.toNat (d.bitpos.toNat + n) with h | h
  · exact .inl ⟨h, Dec.readBits_error h⟩
  · exact .inr ⟨h, Dec.readBits_ok h⟩

/-- Everything `consume` can answer. -/
theorem Dec.consume_cases (d : Dec) (n : Nat) :
    (d.nbits.toNat < d.bitpos.toNat + n ∧ d.consume n = .error .endOfStream) ∨
    (d.bitpos.toNat + n ≤ d.nbits.toNat ∧ d.consume n = .ok (d.advance n)) := by
  rcases Nat.lt_or_ge d.nbits.toNat (d.bitpos.toNat + n) with h | h
  · exact .inl ⟨h, by rw [Dec.consume, (Dec.short_iff d n).2 h]; rfl⟩
  · exact .inr ⟨h, by rw [Dec.consume, (Dec.not_short_iff d n).2 h]; rfl⟩

/-! ## The writer -/

/-- The unit after `WriteBits(b)` has appended (R59). -/
def Enc.appended (e : Enc) (b : Bits) : Enc :=
  { e with wstream := e.wstream ++ b, wbits := e.wbits + BitVec.ofNat 32 b.length }

/-- Everything `WriteBits(b)` can answer (R59). -/
theorem Enc.writeBits_cases (e : Enc) (b : Bits) :
    (2 ^ 32 - 1 < e.wbits.toNat + b.length ∧ e.writeBits b = .error .programmingFault) ∨
    (e.wbits.toNat + b.length ≤ 2 ^ 32 - 1 ∧ e.writeBits b = .ok (e.appended b)) := by
  rcases Nat.lt_or_ge (2 ^ 32 - 1) (e.wbits.toNat + b.length) with h | h
  · exact .inl ⟨h, by rw [Enc.writeBits, if_pos (by simpa [Config.wcap] using h)]⟩
  · exact .inr ⟨h, by rw [Enc.writeBits, if_neg (by simpa [Config.wcap] using h)]; rfl⟩

theorem Enc.writeBits_ok {e : Enc} {b : Bits} (h : e.wbits.toNat + b.length ≤ 2 ^ 32 - 1) :
    e.writeBits b = .ok (e.appended b) := by
  rcases Enc.writeBits_cases e b with h' | h'
  · omega
  · exact h'.2

theorem Enc.writeBits_error {e : Enc} {b : Bits} (h : 2 ^ 32 - 1 < e.wbits.toNat + b.length) :
    e.writeBits b = .error .programmingFault := by
  rcases Enc.writeBits_cases e b with h' | h'
  · exact h'.2
  · omega

/-- `WBITS` counts the appended bits and does not wrap (R16, R58). -/
theorem Enc.appended_wbits {e : Enc} {b : Bits} (h : e.wbits.toNat + b.length ≤ 2 ^ 32 - 1) :
    (e.appended b).wbits.toNat = e.wbits.toNat + b.length := by
  simp only [Enc.appended, BitVec.toNat_add, BitVec.toNat_ofNat]
  omega

/-! ## The gate and the end of a command -/

theorem State.runDec_fault {s : State} (h : s.dec.phase = .fault) (act : Dec → Except ErrCode (Response × Dec)) :
    s.runDec act = .next s.gatedDec := by
  rw [State.runDec, if_pos h]

theorem State.runDec_open {s : State} (h : s.dec.phase ≠ .fault) (act : Dec → Except ErrCode (Response × Dec)) :
    s.runDec act = .next (s.finishDec (act s.dec)) := by
  rw [State.runDec, if_neg h]

theorem State.runEnc_fault {s : State} (h : s.enc.phase = .fault) (act : Enc → Except ErrCode (Response × Enc)) :
    s.runEnc act = .next s.gatedEnc := by
  rw [State.runEnc, if_pos h]

theorem State.runEnc_open {s : State} (h : s.enc.phase ≠ .fault) (act : Enc → Except ErrCode (Response × Enc)) :
    s.runEnc act = .next (s.finishEnc (act s.enc)) := by
  rw [State.runEnc, if_neg h]

/-- Everything a gated DEC command can do to the state (R104, R105). -/
theorem State.runDec_cases {s t : State} {act : Dec → Except ErrCode (Response × Dec)} (h : s.runDec act = .next t) :
    (s.dec.phase = .fault ∧ t = s.gatedDec) ∨
    (s.dec.phase ≠ .fault ∧ ∃ e, act s.dec = .error e ∧ t = s.raiseDec e) ∨
    (s.dec.phase ≠ .fault ∧ ∃ r d, act s.dec = .ok (r, d) ∧ t = (s.withDec d).respond r) := by
  unfold State.runDec at h
  split at h
  · cases h; exact .inl ⟨‹_›, rfl⟩
  · cases h
    cases ha : act s.dec with
    | error e => exact .inr (.inl ⟨‹_›, e, rfl, rfl⟩)
    | ok p => exact .inr (.inr ⟨‹_›, p.1, p.2, rfl, rfl⟩)

/-- Everything a gated ENC command can do to the state (R104, R105). -/
theorem State.runEnc_cases {s t : State} {act : Enc → Except ErrCode (Response × Enc)} (h : s.runEnc act = .next t) :
    (s.enc.phase = .fault ∧ t = s.gatedEnc) ∨
    (s.enc.phase ≠ .fault ∧ ∃ e, act s.enc = .error e ∧ t = s.raiseEnc e) ∨
    (s.enc.phase ≠ .fault ∧ ∃ r e, act s.enc = .ok (r, e) ∧ t = (s.withEnc e).respond r) := by
  unfold State.runEnc at h
  split at h
  · cases h; exact .inl ⟨‹_›, rfl⟩
  · cases h
    cases ha : act s.enc with
    | error e => exact .inr (.inl ⟨‹_›, e, rfl, rfl⟩)
    | ok p => exact .inr (.inr ⟨‹_›, p.1, p.2, rfl, rfl⟩)

/-- A gated command always answers a next state. -/
theorem State.runDec_next (s : State) (act : Dec → Except ErrCode (Response × Dec)) : ∃ t, s.runDec act = .next t := by
  unfold State.runDec
  split <;> exact ⟨_, rfl⟩

theorem State.runEnc_next (s : State) (act : Enc → Except ErrCode (Response × Enc)) : ∃ t, s.runEnc act = .next t := by
  unfold State.runEnc
  split <;> exact ⟨_, rfl⟩

end Sys2Proof.Machine
end

