-- ==== Sys2Proof/Laws/PerInstr.lean ====
section
/-! SUPPORT. The per-instruction family `EncodedForm`: what the encoding of each instruction looks like, whether its
meaning is there or not (R42-R48, R54, R55). -/

namespace Sys2Proof.Laws.EncodedForm

open Sys2Proof Sys2Proof.Machine

/-- A stream element is 2 to 22 bits and stands in the stream (R42-R47); a command stands on the command port with a
command word that R55 lists. -/
def Statement (i : Instr) : Prop :=
  match encode i with
  | .stream b => i.position ≠ .command ∧ 2 ≤ b.length ∧ b.length ≤ 22
  | .command c =>
    i.position = .command ∧ (c.cmd.toNat ≤ 0x0B ∨ (0x10 ≤ c.cmd.toNat ∧ c.cmd.toNat ≤ 0x19))

theorem of_stream {i : Instr} {b : Bits} (he : encode i = .stream b) (hp : i.position ≠ .command)
    (h2 : 2 ≤ b.length) (h22 : b.length ≤ 22) : Statement i := by
  simp only [Statement, he]
  exact ⟨hp, h2, h22⟩

theorem of_command {i : Instr} {cmd : BitVec 8} {a b c : Word32} {data : List Byte}
    (he : encode i = .command ⟨cmd, a, b, c, data⟩) (hp : i.position = .command)
    (hc : cmd.toNat ≤ 0x0B ∨ (0x10 ≤ cmd.toNat ∧ cmd.toNat ≤ 0x19)) : Statement i := by
  simp only [Statement, he]
  exact ⟨hp, hc⟩

theorem of_vlc {i : Instr} {len digits : Nat} {neg : Bool} (he : encode i = vlcCode len digits neg)
    (hp : i.position = .ac) (h2 : 2 ≤ len) (h16 : len ≤ 16) : Statement i :=
  of_stream he (by simp [hp]) (by simp; omega) (by simp; omega)

theorem dcGlobal (d : BitVec 10) : Statement (.dcGlobal d) :=
  of_stream rfl nofun (by simp) (by simp)

theorem dcPerBlock (q : BitVec 6) (d : BitVec 10) : Statement (.dcPerBlock q d) :=
  of_stream rfl nofun (by simp) (by simp)

theorem vlcR0L1 (neg : Bool) : Statement (.vlcR0L1 neg) :=
  of_vlc rfl rfl (by decide) (by decide)

theorem vlcR1L1 (neg : Bool) : Statement (.vlcR1L1 neg) :=
  of_vlc rfl rfl (by decide) (by decide)

theorem vlcR0L2 (neg : Bool) : Statement (.vlcR0L2 neg) :=
  of_vlc rfl rfl (by decide) (by decide)

theorem vlcR2L1 (neg : Bool) : Statement (.vlcR2L1 neg) :=
  of_vlc rfl rfl (by decide) (by decide)

theorem vlcR0L3 (neg : Bool) : Statement (.vlcR0L3 neg) :=
  of_vlc rfl rfl (by decide) (by decide)

theorem vlcR4L1 (neg : Bool) : Statement (.vlcR4L1 neg) :=
  of_vlc rfl rfl (by decide) (by decide)

theorem vlcR3L1 (neg : Bool) : Statement (.vlcR3L1 neg) :=
  of_vlc rfl rfl (by decide) (by decide)

theorem vlcR7L1 (neg : Bool) : Statement (.vlcR7L1 neg) :=
  of_vlc rfl rfl (by decide) (by decide)

theorem vlcR6L1 (neg : Bool) : Statement (.vlcR6L1 neg) :=
  of_vlc rfl rfl (by decide) (by decide)

theorem vlcR1L2 (neg : Bool) : Statement (.vlcR1L2 neg) :=
  of_vlc rfl rfl (by decide) (by decide)

theorem vlcR5L1 (neg : Bool) : Statement (.vlcR5L1 neg) :=
  of_vlc rfl rfl (by decide) (by decide)

theorem vlcR2L2 (neg : Bool) : Statement (.vlcR2L2 neg) :=
  of_vlc rfl rfl (by decide) (by decide)

theorem vlcR9L1 (neg : Bool) : Statement (.vlcR9L1 neg) :=
  of_vlc rfl rfl (by decide) (by decide)

theorem vlcR0L4 (neg : Bool) : Statement (.vlcR0L4 neg) :=
  of_vlc rfl rfl (by decide) (by decide)

theorem vlcR8L1 (neg : Bool) : Statement (.vlcR8L1 neg) :=
  of_vlc rfl rfl (by decide) (by decide)

theorem vlcR13L1 (neg : Bool) : Statement (.vlcR13L1 neg) :=
  of_vlc rfl rfl (by decide) (by decide)

theorem vlcR0L6 (neg : Bool) : Statement (.vlcR0L6 neg) :=
  of_vlc rfl rfl (by decide) (by decide)

theorem vlcR12L1 (neg : Bool) : Statement (.vlcR12L1 neg) :=
  of_vlc rfl rfl (by decide) (by decide)

theorem vlcR11L1 (neg : Bool) : Statement (.vlcR11L1 neg) :=
  of_vlc rfl rfl (by decide) (by decide)

theorem vlcR3L2 (neg : Bool) : Statement (.vlcR3L2 neg) :=
  of_vlc rfl rfl (by decide) (by decide)

theorem vlcR1L3 (neg : Bool) : Statement (.vlcR1L3 neg) :=
  of_vlc rfl rfl (by decide) (by decide)

theorem vlcR0L5 (neg : Bool) : Statement (.vlcR0L5 neg) :=
  of_vlc rfl rfl (by decide) (by decide)

theorem vlcR10L1 (neg : Bool) : Statement (.vlcR10L1 neg) :=
  of_vlc rfl rfl (by decide) (by decide)

theorem vlcR16L1 (neg : Bool) : Statement (.vlcR16L1 neg) :=
  of_vlc rfl rfl (by decide) (by decide)

theorem vlcR5L2 (neg : Bool) : Statement (.vlcR5L2 neg) :=
  of_vlc rfl rfl (by decide) (by decide)

theorem vlcR0L7 (neg : Bool) : Statement (.vlcR0L7 neg) :=
  of_vlc rfl rfl (by decide) (by decide)

theorem vlcR2L3 (neg : Bool) : Statement (.vlcR2L3 neg) :=
  of_vlc rfl rfl (by decide) (by decide)

theorem vlcR1L4 (neg : Bool) : Statement (.vlcR1L4 neg) :=
  of_vlc rfl rfl (by decide) (by decide)

theorem vlcR15L1 (neg : Bool) : Statement (.vlcR15L1 neg) :=
  of_vlc rfl rfl (by decide) (by decide)

theorem vlcR14L1 (neg : Bool) : Statement (.vlcR14L1 neg) :=
  of_vlc rfl rfl (by decide) (by decide)

theorem vlcR4L2 (neg : Bool) : Statement (.vlcR4L2 neg) :=
  of_vlc rfl rfl (by decide) (by decide)

theorem vlcR0L11 (neg : Bool) : Statement (.vlcR0L11 neg) :=
  of_vlc rfl rfl (by decide) (by decide)

theorem vlcR8L2 (neg : Bool) : Statement (.vlcR8L2 neg) :=
  of_vlc rfl rfl (by decide) (by decide)

theorem vlcR4L3 (neg : Bool) : Statement (.vlcR4L3 neg) :=
  of_vlc rfl rfl (by decide) (by decide)

theorem vlcR0L10 (neg : Bool) : Statement (.vlcR0L10 neg) :=
  of_vlc rfl rfl (by decide) (by decide)

theorem vlcR2L4 (neg : Bool) : Statement (.vlcR2L4 neg) :=
  of_vlc rfl rfl (by decide) (by decide)

theorem vlcR7L2 (neg : Bool) : Statement (.vlcR7L2 neg) :=
  of_vlc rfl rfl (by decide) (by decide)

theorem vlcR21L1 (neg : Bool) : Statement (.vlcR21L1 neg) :=
  of_vlc rfl rfl (by decide) (by decide)

theorem vlcR20L1 (neg : Bool) : Statement (.vlcR20L1 neg) :=
  of_vlc rfl rfl (by decide) (by decide)

theorem vlcR0L9 (neg : Bool) : Statement (.vlcR0L9 neg) :=
  of_vlc rfl rfl (by decide) (by decide)

theorem vlcR19L1 (neg : Bool) : Statement (.vlcR19L1 neg) :=
  of_vlc rfl rfl (by decide) (by decide)

theorem vlcR18L1 (neg : Bool) : Statement (.vlcR18L1 neg) :=
  of_vlc rfl rfl (by decide) (by decide)

theorem vlcR1L5 (neg : Bool) : Statement (.vlcR1L5 neg) :=
  of_vlc rfl rfl (by decide) (by decide)

theorem vlcR3L3 (neg : Bool) : Statement (.vlcR3L3 neg) :=
  of_vlc rfl rfl (by decide) (by decide)

theorem vlcR0L8 (neg : Bool) : Statement (.vlcR0L8 neg) :=
  of_vlc rfl rfl (by decide) (by decide)

theorem vlcR6L2 (neg : Bool) : Statement (.vlcR6L2 neg) :=
  of_vlc rfl rfl (by decide) (by decide)

theorem vlcR17L1 (neg : Bool) : Statement (.vlcR17L1 neg) :=
  of_vlc rfl rfl (by decide) (by decide)

theorem vlcR10L2 (neg : Bool) : Statement (.vlcR10L2 neg) :=
  of_vlc rfl rfl (by decide) (by decide)

theorem vlcR9L2 (neg : Bool) : Statement (.vlcR9L2 neg) :=
  of_vlc rfl rfl (by decide) (by decide)

theorem vlcR5L3 (neg : Bool) : Statement (.vlcR5L3 neg) :=
  of_vlc rfl rfl (by decide) (by decide)

theorem vlcR3L4 (neg : Bool) : Statement (.vlcR3L4 neg) :=
  of_vlc rfl rfl (by decide) (by decide)

theorem vlcR2L5 (neg : Bool) : Statement (.vlcR2L5 neg) :=
  of_vlc rfl rfl (by decide) (by decide)

theorem vlcR1L7 (neg : Bool) : Statement (.vlcR1L7 neg) :=
  of_vlc rfl rfl (by decide) (by decide)

theorem vlcR1L6 (neg : Bool) : Statement (.vlcR1L6 neg) :=
  of_vlc rfl rfl (by decide) (by decide)

theorem vlcR0L15 (neg : Bool) : Statement (.vlcR0L15 neg) :=
  of_vlc rfl rfl (by decide) (by decide)

theorem vlcR0L14 (neg : Bool) : Statement (.vlcR0L14 neg) :=
  of_vlc rfl rfl (by decide) (by decide)

theorem vlcR0L13 (neg : Bool) : Statement (.vlcR0L13 neg) :=
  of_vlc rfl rfl (by decide) (by decide)

theorem vlcR0L12 (neg : Bool) : Statement (.vlcR0L12 neg) :=
  of_vlc rfl rfl (by decide) (by decide)

theorem vlcR26L1 (neg : Bool) : Statement (.vlcR26L1 neg) :=
  of_vlc rfl rfl (by decide) (by decide)

theorem vlcR25L1 (neg : Bool) : Statement (.vlcR25L1 neg) :=
  of_vlc rfl rfl (by decide) (by decide)

theorem vlcR24L1 (neg : Bool) : Statement (.vlcR24L1 neg) :=
  of_vlc rfl rfl (by decide) (by decide)

theorem vlcR23L1 (neg : Bool) : Statement (.vlcR23L1 neg) :=
  of_vlc rfl rfl (by decide) (by decide)

theorem vlcR22L1 (neg : Bool) : Statement (.vlcR22L1 neg) :=
  of_vlc rfl rfl (by decide) (by decide)

theorem vlcR0L31 (neg : Bool) : Statement (.vlcR0L31 neg) :=
  of_vlc rfl rfl (by decide) (by decide)

theorem vlcR0L30 (neg : Bool) : Statement (.vlcR0L30 neg) :=
  of_vlc rfl rfl (by decide) (by decide)

theorem vlcR0L29 (neg : Bool) : Statement (.vlcR0L29 neg) :=
  of_vlc rfl rfl (by decide) (by decide)

theorem vlcR0L28 (neg : Bool) : Statement (.vlcR0L28 neg) :=
  of_vlc rfl rfl (by decide) (by decide)

theorem vlcR0L27 (neg : Bool) : Statement (.vlcR0L27 neg) :=
  of_vlc rfl rfl (by decide) (by decide)

theorem vlcR0L26 (neg : Bool) : Statement (.vlcR0L26 neg) :=
  of_vlc rfl rfl (by decide) (by decide)

theorem vlcR0L25 (neg : Bool) : Statement (.vlcR0L25 neg) :=
  of_vlc rfl rfl (by decide) (by decide)

theorem vlcR0L24 (neg : Bool) : Statement (.vlcR0L24 neg) :=
  of_vlc rfl rfl (by decide) (by decide)

theorem vlcR0L23 (neg : Bool) : Statement (.vlcR0L23 neg) :=
  of_vlc rfl rfl (by decide) (by decide)

theorem vlcR0L22 (neg : Bool) : Statement (.vlcR0L22 neg) :=
  of_vlc rfl rfl (by decide) (by decide)

theorem vlcR0L21 (neg : Bool) : Statement (.vlcR0L21 neg) :=
  of_vlc rfl rfl (by decide) (by decide)

theorem vlcR0L20 (neg : Bool) : Statement (.vlcR0L20 neg) :=
  of_vlc rfl rfl (by decide) (by decide)

theorem vlcR0L19 (neg : Bool) : Statement (.vlcR0L19 neg) :=
  of_vlc rfl rfl (by decide) (by decide)

theorem vlcR0L18 (neg : Bool) : Statement (.vlcR0L18 neg) :=
  of_vlc rfl rfl (by decide) (by decide)

theorem vlcR0L17 (neg : Bool) : Statement (.vlcR0L17 neg) :=
  of_vlc rfl rfl (by decide) (by decide)

theorem vlcR0L16 (neg : Bool) : Statement (.vlcR0L16 neg) :=
  of_vlc rfl rfl (by decide) (by decide)

theorem vlcR0L40 (neg : Bool) : Statement (.vlcR0L40 neg) :=
  of_vlc rfl rfl (by decide) (by decide)

theorem vlcR0L39 (neg : Bool) : Statement (.vlcR0L39 neg) :=
  of_vlc rfl rfl (by decide) (by decide)

theorem vlcR0L38 (neg : Bool) : Statement (.vlcR0L38 neg) :=
  of_vlc rfl rfl (by decide) (by decide)

theorem vlcR0L37 (neg : Bool) : Statement (.vlcR0L37 neg) :=
  of_vlc rfl rfl (by decide) (by decide)

theorem vlcR0L36 (neg : Bool) : Statement (.vlcR0L36 neg) :=
  of_vlc rfl rfl (by decide) (by decide)

theorem vlcR0L35 (neg : Bool) : Statement (.vlcR0L35 neg) :=
  of_vlc rfl rfl (by decide) (by decide)

theorem vlcR0L34 (neg : Bool) : Statement (.vlcR0L34 neg) :=
  of_vlc rfl rfl (by decide) (by decide)

theorem vlcR0L33 (neg : Bool) : Statement (.vlcR0L33 neg) :=
  of_vlc rfl rfl (by decide) (by decide)

theorem vlcR0L32 (neg : Bool) : Statement (.vlcR0L32 neg) :=
  of_vlc rfl rfl (by decide) (by decide)

theorem vlcR1L14 (neg : Bool) : Statement (.vlcR1L14 neg) :=
  of_vlc rfl rfl (by decide) (by decide)

theorem vlcR1L13 (neg : Bool) : Statement (.vlcR1L13 neg) :=
  of_vlc rfl rfl (by decide) (by decide)

theorem vlcR1L12 (neg : Bool) : Statement (.vlcR1L12 neg) :=
  of_vlc rfl rfl (by decide) (by decide)

theorem vlcR1L11 (neg : Bool) : Statement (.vlcR1L11 neg) :=
  of_vlc rfl rfl (by decide) (by decide)

theorem vlcR1L10 (neg : Bool) : Statement (.vlcR1L10 neg) :=
  of_vlc rfl rfl (by decide) (by decide)

theorem vlcR1L9 (neg : Bool) : Statement (.vlcR1L9 neg) :=
  of_vlc rfl rfl (by decide) (by decide)

theorem vlcR1L8 (neg : Bool) : Statement (.vlcR1L8 neg) :=
  of_vlc rfl rfl (by decide) (by decide)

theorem vlcR1L18 (neg : Bool) : Statement (.vlcR1L18 neg) :=
  of_vlc rfl rfl (by decide) (by decide)

theorem vlcR1L17 (neg : Bool) : Statement (.vlcR1L17 neg) :=
  of_vlc rfl rfl (by decide) (by decide)

theorem vlcR1L16 (neg : Bool) : Statement (.vlcR1L16 neg) :=
  of_vlc rfl rfl (by decide) (by decide)

theorem vlcR1L15 (neg : Bool) : Statement (.vlcR1L15 neg) :=
  of_vlc rfl rfl (by decide) (by decide)

theorem vlcR6L3 (neg : Bool) : Statement (.vlcR6L3 neg) :=
  of_vlc rfl rfl (by decide) (by decide)

theorem vlcR16L2 (neg : Bool) : Statement (.vlcR16L2 neg) :=
  of_vlc rfl rfl (by decide) (by decide)

theorem vlcR15L2 (neg : Bool) : Statement (.vlcR15L2 neg) :=
  of_vlc rfl rfl (by decide) (by decide)

theorem vlcR14L2 (neg : Bool) : Statement (.vlcR14L2 neg) :=
  of_vlc rfl rfl (by decide) (by decide)

theorem vlcR13L2 (neg : Bool) : Statement (.vlcR13L2 neg) :=
  of_vlc rfl rfl (by decide) (by decide)

theorem vlcR12L2 (neg : Bool) : Statement (.vlcR12L2 neg) :=
  of_vlc rfl rfl (by decide) (by decide)

theorem vlcR11L2 (neg : Bool) : Statement (.vlcR11L2 neg) :=
  of_vlc rfl rfl (by decide) (by decide)

theorem vlcR31L1 (neg : Bool) : Statement (.vlcR31L1 neg) :=
  of_vlc rfl rfl (by decide) (by decide)

theorem vlcR30L1 (neg : Bool) : Statement (.vlcR30L1 neg) :=
  of_vlc rfl rfl (by decide) (by decide)

theorem vlcR29L1 (neg : Bool) : Statement (.vlcR29L1 neg) :=
  of_vlc rfl rfl (by decide) (by decide)

theorem vlcR28L1 (neg : Bool) : Statement (.vlcR28L1 neg) :=
  of_vlc rfl rfl (by decide) (by decide)

theorem vlcR27L1 (neg : Bool) : Statement (.vlcR27L1 neg) :=
  of_vlc rfl rfl (by decide) (by decide)

theorem eob : Statement .eob :=
  of_stream rfl (by decide) (by decide) (by decide)

theorem esc (r : BitVec 6) (l : BitVec 10) : Statement (.esc r l) :=
  of_stream rfl nofun (by simp [Config.escPrefix]) (by simp [Config.escPrefix])

theorem trailer : Statement .trailer :=
  of_stream rfl (by decide) (by decide) (by decide)

theorem decReset : Statement .decReset :=
  of_command rfl rfl (by decide)

theorem decRegRead (n : BitVec 8) : Statement (.decRegRead n) :=
  of_command rfl rfl (by decide)

theorem brInit (order : Order) (offset : Word32) (data : List Byte) : Statement (.brInit order offset data) :=
  of_command rfl rfl (by decide)

theorem brReadU (n : BitVec 6) : Statement (.brReadU n) :=
  of_command rfl rfl (by decide)

theorem brReadS (n : BitVec 6) : Statement (.brReadS n) :=
  of_command rfl rfl (by decide)

theorem brPos : Statement .brPos :=
  of_command rfl rfl (by decide)

theorem cbDecode : Statement .cbDecode :=
  of_command rfl rfl (by decide)

theorem hdrParse : Statement .hdrParse :=
  of_command rfl rfl (by decide)

theorem decStart (qmode : QMode) (qscale : BitVec 6) (mbtotal : BitVec 16) : Statement (.decStart qmode qscale mbtotal) :=
  of_command rfl rfl (by decide)

theorem decStep : Statement .decStep :=
  of_command rfl rfl (by decide)

theorem decSkipMb : Statement .decSkipMb :=
  of_command rfl rfl (by decide)

theorem decSkipPadding : Statement .decSkipPadding :=
  of_command rfl rfl (by decide)

theorem encReset : Statement .encReset :=
  of_command rfl rfl (by decide)

theorem encRegRead (n : BitVec 8) : Statement (.encRegRead n) :=
  of_command rfl rfl (by decide)

theorem bwInit (order : Order) : Statement (.bwInit order) :=
  of_command rfl rfl (by decide)

theorem bwWrite (value : Word32) (n : BitVec 6) : Statement (.bwWrite value n) :=
  of_command rfl rfl (by decide)

theorem bwPos : Statement .bwPos :=
  of_command rfl rfl (by decide)

theorem bwFlush : Statement .bwFlush :=
  of_command rfl rfl (by decide)

theorem cbLookup (run : BitVec 6) (level : BitVec 10) : Statement (.cbLookup run level) :=
  of_command rfl rfl (by decide)

theorem encStart (mbtotal : BitVec 16) (version : Code) : Statement (.encStart mbtotal version) :=
  of_command rfl rfl (by decide)

theorem encPut (w : Code) : Statement (.encPut w) :=
  of_command rfl rfl (by decide)

theorem encFinish : Statement .encFinish :=
  of_command rfl rfl (by decide)

end Sys2Proof.Laws.EncodedForm
end

