-- ==== Sys2Proof/Laws/Walk.lean ====
section
/-! SUPPORT. The prefix walk and `DecodeAC` as functions of the bits that remain at the cursor: what the machine's
bit-serial walk answers depends on nothing else (R69-R71). -/

namespace Sys2Proof.Machine

/-- The walk of R69 over a list of bits: the kind and how many bits it took. -/
def walkBits (cb : Codebook) : Nat → Bits → Bits → Except ErrCode (Kind × Nat)
  | 0, _, _ => .error .readCorruption
  | _ + 1, _, [] => .error .endOfStream
  | fuel + 1, p, b :: bs =>
    match cb.entries.find? (fun e => e.pfx == p ++ [b]) with
    | some e => .ok (e.kind, 1)
    | none =>
      if !cb.entries.any (fun e => (p ++ [b]).isPrefixOf e.pfx) || (p ++ [b]).length == cb.maxLen then
        .error .readCorruption
      else
        match walkBits cb fuel (p ++ [b]) bs with
        | .error e => .error e
        | .ok (k, n) => .ok (k, n + 1)

@[simp] theorem Dec.remaining_length (d : Dec) : d.remaining.length = d.nbits.toNat - d.bitpos.toNat := by
  simp [Dec.remaining]

/-- After reading `n` bits that are there, the rest remains. -/
theorem Dec.remaining_advance {d : Dec} {n : Nat} (h : d.bitpos.toNat + n ≤ d.nbits.toNat) :
    (d.advance n).remaining = d.remaining.drop n := by
  have h1 : d.nbits.toNat - d.bitpos.toNat = n + (d.nbits.toNat - (d.bitpos.toNat + n)) := by omega
  rw [Dec.remaining, Dec.advance_toNat h, Dec.advance_nbits, Dec.advance_streamBits, Dec.remaining, h1,
    Dec.streamBits_add]
  simp

/-- The bits that a read takes are the first that remain. -/
theorem Dec.remaining_take {d : Dec} {n : Nat} (h : d.bitpos.toNat + n ≤ d.nbits.toNat) :
    d.streamBits d.bitpos.toNat n = d.remaining.take n := by
  have h1 : d.nbits.toNat - d.bitpos.toNat = n + (d.nbits.toNat - (d.bitpos.toNat + n)) := by omega
  rw [Dec.remaining, h1, Dec.streamBits_add]
  simp

theorem Dec.remaining_nil_iff (d : Dec) : d.remaining = [] ↔ d.nbits.toNat ≤ d.bitpos.toNat := by
  rw [← List.length_eq_zero_iff, Dec.remaining_length]
  omega

/-- `ReadBits(n)` by the bits that remain. -/
theorem Dec.readBits_remaining {d : Dec} {n : Nat} (hn : 0 < n) :
    d.readBits n = if d.remaining.length < n then .error .endOfStream
      else .ok (bitsToNat (d.remaining.take n), d.advance n) := by
  rw [Dec.remaining_length]
  split
  · exact Dec.readBits_error (by omega)
  · rw [Dec.readBits_ok (by omega), Dec.remaining_take (by omega)]

theorem Dec.remaining_cons {d : Dec} {b : Bool} {bs : Bits} (h : d.remaining = b :: bs) :
    d.readBits 1 = .ok (b.toNat, d.advance 1) ∧ (d.advance 1).remaining = bs := by
  have hl := d.remaining_length
  rw [h, List.length_cons] at hl
  have hle : d.bitpos.toNat + 1 ≤ d.nbits.toNat := by omega
  constructor
  · rw [Dec.readBits_ok hle, Dec.remaining_take hle, h]
    cases b <;> rfl
  · rw [Dec.remaining_advance hle, h]
    rfl

/-- The machine's walk is the walk over the bits that remain. -/
theorem cbWalk_eq (cb : Codebook) (fuel : Nat) (p : Bits) (d : Dec) :
    cbWalk cb fuel p d =
      match walkBits cb fuel p d.remaining with
      | .error e => .error e
      | .ok (k, n) => .ok (k, d.advance n) := by
  induction fuel generalizing p d with
  | zero => rfl
  | succ fuel ih =>
    cases hr : d.remaining with
    | nil =>
      have := (Dec.remaining_nil_iff d).1 hr
      rw [cbWalk, Dec.readBits_error (by omega), walkBits]
    | cons b bs =>
      obtain ⟨h1, h2⟩ := Dec.remaining_cons hr
      have hb : (b.toNat == 1) = b := by cases b <;> rfl
      rw [cbWalk, h1, walkBits]
      simp only [hb]
      cases cb.entries.find? (fun e => e.pfx == p ++ [b]) with
      | some e => rfl
      | none =>
        dsimp only
        split
        · rfl
        · rw [ih, h2]
          cases walkBits cb fuel (p ++ [b]) bs with
          | error e => rfl
          | ok kn =>
            obtain ⟨k, n⟩ := kn
            simp [Nat.add_comm]

/-- `DecodeAC` over a list of bits: the kind, the word, and how many bits it took (R71). -/
def acOfBits (cb : Codebook) (bs : Bits) : Except ErrCode (AcKind × Code × Nat) :=
  match walkBits cb cb.maxLen [] bs with
  | .error e => .error e
  | .ok (.normal run level, n) =>
    match bs.drop n with
    | [] => .error .endOfStream
    | s :: _ => .ok (.normal, acWord run level s, n + 1)
  | .ok (.esc, n) =>
    if (bs.drop n).length < 16 then .error .endOfStream
    else if isEod (BitVec.ofNat 16 (bitsToNat ((bs.drop n).take 16))) then .error .readCorruption
    else .ok (.esc, BitVec.ofNat 16 (bitsToNat ((bs.drop n).take 16)), n + 16)
  | .ok (.eob, n) => .ok (.eob, Config.eodWord, n)

/-- The walk takes no more bits than there are. -/
theorem walkBits_le {cb : Codebook} {fuel n : Nat} {p bs : Bits} {k : Kind}
    (h : walkBits cb fuel p bs = .ok (k, n)) : n ≤ bs.length := by
  induction fuel generalizing p bs n k with
  | zero => simp [walkBits] at h
  | succ fuel ih =>
    cases bs with
    | nil => simp [walkBits] at h
    | cons b bs =>
      rw [walkBits] at h
      split at h
      · cases h; simp
      · split at h
        · cases h
        · cases hw : walkBits cb fuel (p ++ [b]) bs with
          | error e => simp [hw] at h
          | ok kn =>
            obtain ⟨k', n'⟩ := kn
            simp only [hw, Except.ok.injEq, Prod.mk.injEq] at h
            have := ih hw
            simp only [List.length_cons]
            omega

/-- The machine's `DecodeAC` is the one over the bits that remain. -/
theorem decodeAC_eq (cb : Codebook) (d : Dec) :
    decodeAC cb d =
      match acOfBits cb d.remaining with
      | .error e => .error e
      | .ok (k, w, n) => .ok (k, w, d.advance n) := by
  rw [decodeAC, cbMatch, cbWalk_eq, acOfBits]
  cases hw : walkBits cb cb.maxLen [] d.remaining with
  | error e => rfl
  | ok kn =>
    obtain ⟨k, n⟩ := kn
    have hn := walkBits_le hw
    rw [Dec.remaining_length] at hn
    by_cases h0 : d.nbits.toNat ≤ d.bitpos.toNat
    · have hnil := (Dec.remaining_nil_iff d).2 h0
      rw [hnil] at hw
      cases hm : cb.maxLen <;> simp [hm, walkBits] at hw
    · have hle : d.bitpos.toNat + n ≤ d.nbits.toNat := by omega
      have hdrop := Dec.remaining_advance hle
      cases k with
      | eob => rfl
      | esc =>
        dsimp only
        rw [Dec.readBits_remaining (by omega), hdrop]
        by_cases h1 : (d.remaining.drop n).length < 16
        · simp only [h1, if_pos]
        · simp only [h1, if_neg, not_false_eq_true]
          split
          · rfl
          · simp
      | normal run level =>
        dsimp only
        cases hd : d.remaining.drop n with
        | nil =>
          rw [Dec.readBits_remaining (by omega), hdrop, hd]
          rfl
        | cons s rest =>
          obtain ⟨h1, _⟩ := Dec.remaining_cons (hdrop.trans hd)
          rw [h1]
          cases s <;> simp

end Sys2Proof.Machine
end

