-- ==== Sys2Proof/Tests/Slice0.lean ====
section
/-! SUPPORT. The model's own tests: ill-formed terms refused, words written out from the spec's encodings decoded,
one-step tests whose expected results are vectors of 95_test_vectors.md, and for every obligation with hypotheses
a state and operands that meet them. -/

namespace Sys2Proof.Tests

open Sys2Proof Sys2Proof.Machine

-- One theorem after another: each `decide` of the kernel would otherwise wait on a thread of its own.
set_option Elab.async false

/-! ## Helpers -/

/-- The next state, if there is one. -/
def next? (o : Host.Outcome State Fault Refusal) : Option State :=
  match o with
  | .next s => some s
  | .fault _ => none
  | .refused _ => none

/-- A command with its operands. -/
def cmd (c : BitVec 8) (a b k : Word32) (data : List Byte) : Command := ⟨c, a, b, k, data⟩

/-- The state with the given units and one command on the port. -/
def on (d : Dec) (e : Enc) (c : Command) : State := ⟨d, e, ⟨[c], none⟩, 0⟩

/-- The response of a step, as numbers: status, X, Y (0 stands for an absent field too). -/
def answer (s : State) : Option (Nat × Nat × Nat) :=
  match next? (step s) with
  | none => none
  | some t => t.port.resp.map (fun r => (r.status.code.toNat, (r.x.getD 0).toNat, (r.y.getD 0).toNat))

/-- A view of DEC after a step. -/
def decView {α : Type} (s : State) (f : Dec → α) : Option α := (next? (step s)).map (fun t => f t.dec)

/-- A view of ENC after a step. -/
def encView {α : Type} (s : State) (f : Enc → α) : Option α := (next? (step s)).map (fun t => f t.enc)

/-- A reader over the bytes, in LE16, with the cursor at `pos`. -/
def reader (bytes : List Byte) (pos : Word32) : Dec := Dec.loaded .le16 pos bytes

/-- The decode engine over the bytes in a phase, GLOBAL, one macroblock, with the given qscale. -/
def engine (bytes : List Byte) (pos : Word32) (p : DecPhase) (q : BitVec 6) : Dec :=
  { reader bytes pos with phase := p, qscale := q, mbtotal := 1 }

/-- The encode engine in a phase, one macroblock. -/
def encoder (p : EncPhase) : Enc := { Enc.reset with phase := p, mbtotal := 1 }

/-- A DEC command on a unit, ENC being as after reset. -/
def decOn (d : Dec) (c : BitVec 8) (a b k : Word32) : State := on d Enc.reset (cmd c a b k [])

/-- An ENC command on a unit, DEC being as after reset. -/
def encOn (e : Enc) (c : BitVec 8) (a b k : Word32) : State := on Dec.reset e (cmd c a b k [])

/-- Bits written out as digits. -/
def bits (n v : Nat) : Bits := natToBits n v

/-! ## Well-formedness: the check refuses the ill-formed terms of R51 -/

theorem test_escape_of_endOfData_is_illFormed : (Instr.esc 63 512).wellFormed = false := by decide
theorem test_escape_next_to_endOfData_is_wellFormed :
    (Instr.esc 63 511).wellFormed = true ∧ (Instr.esc 62 512).wellFormed = true := by decide
theorem test_dcPerBlock_of_endOfData_is_illFormed : (Instr.dcPerBlock 63 512).wellFormed = false := by decide
theorem test_dcPerBlock_next_to_endOfData_is_wellFormed : (Instr.dcPerBlock 63 513).wellFormed = true := by decide

/-! ## Decoding: every constructor by a word written out from its encoding -/

/-- The bits decode at the position to the instruction, with nothing left over. -/
def decodesTo (pos : Position) (b : Bits) (i : Instr) : Bool :=
  match decodeStream pos b with
  | .ok (j, rest) => j == i && rest == []
  | .error _ => false

/-- The bits are rejected at the position with this reason. -/
def rejects (pos : Position) (b : Bits) (e : DecodeError) : Bool :=
  match decodeStream pos b with
  | .ok _ => false
  | .error r => r == e

/-- The word an AC code emits in a frame. -/
def emits (i : Instr) : Option Code :=
  (next? (exec i ⟨engine [0, 0, 0, 0] 0 .readingAc 1, Enc.reset, ⟨[], none⟩, 0⟩)).map (fun t => t.dec.lastWord)

/-- A row of R48: prefix length and digits, the words for sign bit 0 and 1, and the instruction. The digits with a sign
bit 1 decode to the instruction with a minus sign, and the two signs emit the two words. -/
def rowsOk (rows : List (Nat × Nat × Code × Code × (Bool → Instr))) : Bool :=
  rows.all (fun (len, digits, w0, w1, build) =>
    decodesTo .ac (bits (len + 1) (2 * digits + 1)) (build true) &&
      emits (build false) == some w0 && emits (build true) == some w1)

/-- R48, rows 1 to 19: prefix, words for s = 0 and s = 1, instruction. -/
theorem test_rows_1_to_19_decode : rowsOk
  [(2, 0b11, 0x0001, 0x03FF, .vlcR0L1),
   (3, 0b011, 0x0401, 0x07FF, .vlcR1L1),
   (4, 0b0100, 0x0002, 0x03FE, .vlcR0L2),
   (4, 0b0101, 0x0801, 0x0BFF, .vlcR2L1),
   (5, 0b00101, 0x0003, 0x03FD, .vlcR0L3),
   (5, 0b00110, 0x1001, 0x13FF, .vlcR4L1),
   (5, 0b00111, 0x0C01, 0x0FFF, .vlcR3L1),
   (6, 0b000100, 0x1C01, 0x1FFF, .vlcR7L1),
   (6, 0b000101, 0x1801, 0x1BFF, .vlcR6L1),
   (6, 0b000110, 0x0402, 0x07FE, .vlcR1L2),
   (6, 0b000111, 0x1401, 0x17FF, .vlcR5L1),
   (7, 0b0000100, 0x0802, 0x0BFE, .vlcR2L2),
   (7, 0b0000101, 0x2401, 0x27FF, .vlcR9L1),
   (7, 0b0000110, 0x0004, 0x03FC, .vlcR0L4),
   (7, 0b0000111, 0x2001, 0x23FF, .vlcR8L1),
   (8, 0b00100000, 0x3401, 0x37FF, .vlcR13L1),
   (8, 0b00100001, 0x0006, 0x03FA, .vlcR0L6),
   (8, 0b00100010, 0x3001, 0x33FF, .vlcR12L1),
   (8, 0b00100011, 0x2C01, 0x2FFF, .vlcR11L1)] = true := by decide +kernel

/-- R48, rows 20 to 38: prefix, words for s = 0 and s = 1, instruction. -/
theorem test_rows_20_to_38_decode : rowsOk
  [(8, 0b00100100, 0x0C02, 0x0FFE, .vlcR3L2),
   (8, 0b00100101, 0x0403, 0x07FD, .vlcR1L3),
   (8, 0b00100110, 0x0005, 0x03FB, .vlcR0L5),
   (8, 0b00100111, 0x2801, 0x2BFF, .vlcR10L1),
   (10, 0b0000001000, 0x4001, 0x43FF, .vlcR16L1),
   (10, 0b0000001001, 0x1402, 0x17FE, .vlcR5L2),
   (10, 0b0000001010, 0x0007, 0x03F9, .vlcR0L7),
   (10, 0b0000001011, 0x0803, 0x0BFD, .vlcR2L3),
   (10, 0b0000001100, 0x0404, 0x07FC, .vlcR1L4),
   (10, 0b0000001101, 0x3C01, 0x3FFF, .vlcR15L1),
   (10, 0b0000001110, 0x3801, 0x3BFF, .vlcR14L1),
   (10, 0b0000001111, 0x1002, 0x13FE, .vlcR4L2),
   (12, 0b000000010000, 0x000B, 0x03F5, .vlcR0L11),
   (12, 0b000000010001, 0x2002, 0x23FE, .vlcR8L2),
   (12, 0b000000010010, 0x1003, 0x13FD, .vlcR4L3),
   (12, 0b000000010011, 0x000A, 0x03F6, .vlcR0L10),
   (12, 0b000000010100, 0x0804, 0x0BFC, .vlcR2L4),
   (12, 0b000000010101, 0x1C02, 0x1FFE, .vlcR7L2),
   (12, 0b000000010110, 0x5401, 0x57FF, .vlcR21L1)] = true := by decide +kernel

/-- R48, rows 39 to 57: prefix, words for s = 0 and s = 1, instruction. -/
theorem test_rows_39_to_57_decode : rowsOk
  [(12, 0b000000010111, 0x5001, 0x53FF, .vlcR20L1),
   (12, 0b000000011000, 0x0009, 0x03F7, .vlcR0L9),
   (12, 0b000000011001, 0x4C01, 0x4FFF, .vlcR19L1),
   (12, 0b000000011010, 0x4801, 0x4BFF, .vlcR18L1),
   (12, 0b000000011011, 0x0405, 0x07FB, .vlcR1L5),
   (12, 0b000000011100, 0x0C03, 0x0FFD, .vlcR3L3),
   (12, 0b000000011101, 0x0008, 0x03F8, .vlcR0L8),
   (12, 0b000000011110, 0x1802, 0x1BFE, .vlcR6L2),
   (12, 0b000000011111, 0x4401, 0x47FF, .vlcR17L1),
   (13, 0b0000000010000, 0x2802, 0x2BFE, .vlcR10L2),
   (13, 0b0000000010001, 0x2402, 0x27FE, .vlcR9L2),
   (13, 0b0000000010010, 0x1403, 0x17FD, .vlcR5L3),
   (13, 0b0000000010011, 0x0C04, 0x0FFC, .vlcR3L4),
   (13, 0b0000000010100, 0x0805, 0x0BFB, .vlcR2L5),
   (13, 0b0000000010101, 0x0407, 0x07F9, .vlcR1L7),
   (13, 0b0000000010110, 0x0406, 0x07FA, .vlcR1L6),
   (13, 0b0000000010111, 0x000F, 0x03F1, .vlcR0L15),
   (13, 0b0000000011000, 0x000E, 0x03F2, .vlcR0L14),
   (13, 0b0000000011001, 0x000D, 0x03F3, .vlcR0L13)] = true := by decide +kernel

/-- R48, rows 58 to 76: prefix, words for s = 0 and s = 1, instruction. -/
theorem test_rows_58_to_76_decode : rowsOk
  [(13, 0b0000000011010, 0x000C, 0x03F4, .vlcR0L12),
   (13, 0b0000000011011, 0x6801, 0x6BFF, .vlcR26L1),
   (13, 0b0000000011100, 0x6401, 0x67FF, .vlcR25L1),
   (13, 0b0000000011101, 0x6001, 0x63FF, .vlcR24L1),
   (13, 0b0000000011110, 0x5C01, 0x5FFF, .vlcR23L1),
   (13, 0b0000000011111, 0x5801, 0x5BFF, .vlcR22L1),
   (14, 0b00000000010000, 0x001F, 0x03E1, .vlcR0L31),
   (14, 0b00000000010001, 0x001E, 0x03E2, .vlcR0L30),
   (14, 0b00000000010010, 0x001D, 0x03E3, .vlcR0L29),
   (14, 0b00000000010011, 0x001C, 0x03E4, .vlcR0L28),
   (14, 0b00000000010100, 0x001B, 0x03E5, .vlcR0L27),
   (14, 0b00000000010101, 0x001A, 0x03E6, .vlcR0L26),
   (14, 0b00000000010110, 0x0019, 0x03E7, .vlcR0L25),
   (14, 0b00000000010111, 0x0018, 0x03E8, .vlcR0L24),
   (14, 0b00000000011000, 0x0017, 0x03E9, .vlcR0L23),
   (14, 0b00000000011001, 0x0016, 0x03EA, .vlcR0L22),
   (14, 0b00000000011010, 0x0015, 0x03EB, .vlcR0L21),
   (14, 0b00000000011011, 0x0014, 0x03EC, .vlcR0L20),
   (14, 0b00000000011100, 0x0013, 0x03ED, .vlcR0L19)] = true := by decide +kernel

/-- R48, rows 77 to 95: prefix, words for s = 0 and s = 1, instruction. -/
theorem test_rows_77_to_95_decode : rowsOk
  [(14, 0b00000000011101, 0x0012, 0x03EE, .vlcR0L18),
   (14, 0b00000000011110, 0x0011, 0x03EF, .vlcR0L17),
   (14, 0b00000000011111, 0x0010, 0x03F0, .vlcR0L16),
   (15, 0b000000000010000, 0x0028, 0x03D8, .vlcR0L40),
   (15, 0b000000000010001, 0x0027, 0x03D9, .vlcR0L39),
   (15, 0b000000000010010, 0x0026, 0x03DA, .vlcR0L38),
   (15, 0b000000000010011, 0x0025, 0x03DB, .vlcR0L37),
   (15, 0b000000000010100, 0x0024, 0x03DC, .vlcR0L36),
   (15, 0b000000000010101, 0x0023, 0x03DD, .vlcR0L35),
   (15, 0b000000000010110, 0x0022, 0x03DE, .vlcR0L34),
   (15, 0b000000000010111, 0x0021, 0x03DF, .vlcR0L33),
   (15, 0b000000000011000, 0x0020, 0x03E0, .vlcR0L32),
   (15, 0b000000000011001, 0x040E, 0x07F2, .vlcR1L14),
   (15, 0b000000000011010, 0x040D, 0x07F3, .vlcR1L13),
   (15, 0b000000000011011, 0x040C, 0x07F4, .vlcR1L12),
   (15, 0b000000000011100, 0x040B, 0x07F5, .vlcR1L11),
   (15, 0b000000000011101, 0x040A, 0x07F6, .vlcR1L10),
   (15, 0b000000000011110, 0x0409, 0x07F7, .vlcR1L9),
   (15, 0b000000000011111, 0x0408, 0x07F8, .vlcR1L8)] = true := by decide +kernel

/-- R48, rows 96 to 111: prefix, words for s = 0 and s = 1, instruction. -/
theorem test_rows_96_to_111_decode : rowsOk
  [(16, 0b0000000000010000, 0x0412, 0x07EE, .vlcR1L18),
   (16, 0b0000000000010001, 0x0411, 0x07EF, .vlcR1L17),
   (16, 0b0000000000010010, 0x0410, 0x07F0, .vlcR1L16),
   (16, 0b0000000000010011, 0x040F, 0x07F1, .vlcR1L15),
   (16, 0b0000000000010100, 0x1803, 0x1BFD, .vlcR6L3),
   (16, 0b0000000000010101, 0x4002, 0x43FE, .vlcR16L2),
   (16, 0b0000000000010110, 0x3C02, 0x3FFE, .vlcR15L2),
   (16, 0b0000000000010111, 0x3802, 0x3BFE, .vlcR14L2),
   (16, 0b0000000000011000, 0x3402, 0x37FE, .vlcR13L2),
   (16, 0b0000000000011001, 0x3002, 0x33FE, .vlcR12L2),
   (16, 0b0000000000011010, 0x2C02, 0x2FFE, .vlcR11L2),
   (16, 0b0000000000011011, 0x7C01, 0x7FFF, .vlcR31L1),
   (16, 0b0000000000011100, 0x7801, 0x7BFF, .vlcR30L1),
   (16, 0b0000000000011101, 0x7401, 0x77FF, .vlcR29L1),
   (16, 0b0000000000011110, 0x7001, 0x73FF, .vlcR28L1),
   (16, 0b0000000000011111, 0x6C01, 0x6FFF, .vlcR27L1)] = true := by decide +kernel

/-- R42, R43: DC fields; R46, R47: sentinels; R45 and E7: escapes. -/
theorem test_stream_formats_decode :
    decodesTo .dcGlobal (bits 10 0b0000000101) (.dcGlobal 5) = true ∧
    decodesTo .dcGlobal (bits 10 0b1111111111) (.dcGlobal 1023) = true ∧
    decodesTo .dcPerBlock (bits 16 0b0001000000000101) (.dcPerBlock 4 5) = true ∧
    decodesTo .ac (bits 2 0b10) .eob = true ∧
    decodesTo .ac (bits 22 0b0000010000000000101001) (.esc 0 41) = true ∧
    decodesTo .ac (bits 22 0b0000011111110111111111) (.esc 63 511) = true ∧
    decodesTo .trailer (bits 11 0b01111111110) .trailer = true := by decide +kernel

/-- R51 (twelve zeros, the two collisions), R52 item 3, and bits that end too early (R107). -/
theorem test_illegal_patterns_are_rejected_by_name :
    rejects .ac (bits 12 0) .noCode = true ∧ rejects .ac (bits 11 0) .truncated = true ∧
    rejects .ac (bits 22 0b0000011111111000000000) .endOfDataCollision = true ∧
    rejects .dcPerBlock (bits 16 0xFE00) .endOfDataCollision = true ∧
    rejects .trailer (bits 11 0) .notTrailer = true ∧
    rejects .dcGlobal (bits 9 0) .truncated = true := by decide +kernel

/-- The instruction of a command. -/
def commandIs (c : Command) (i : Instr) : Bool :=
  match decodeCommand c with
  | .ok j => j == i
  | .error _ => false

/-- R55: the 22 command codes with operand bits outside the fields set (ignored). -/
theorem test_command_words_decode :
    ([(cmd 0x00 7 7 7 [1], .decReset), (cmd 0x01 0xFF12 0 0 [], .decRegRead 0x12),
      (cmd 0x02 0xFFFFFFFF 64 0 [1, 2], .brInit .be16 64 [1, 2]), (cmd 0x02 2 64 0 [], .brInit .le16 64 []),
      (cmd 0x03 0x45 0 0 [], .brReadU 5), (cmd 0x04 10 0 0 [], .brReadS 10), (cmd 0x05 0 0 0 [], .brPos),
      (cmd 0x06 0 0 0 [], .cbDecode), (cmd 0x07 0 0 0 [], .hdrParse),
      (cmd 0x08 1 0x44 0x10002 [], .decStart .perBlock 4 2), (cmd 0x08 0 4 1 [], .decStart .global 4 1),
      (cmd 0x09 0 0 0 [], .decStep), (cmd 0x0A 0 0 0 [], .decSkipMb), (cmd 0x0B 0 0 0 [], .decSkipPadding),
      (cmd 0x10 0 0 0 [], .encReset), (cmd 0x11 0x109 0 0 [], .encRegRead 9), (cmd 0x12 1 0 0 [], .bwInit .be16),
      (cmd 0x13 0xFFFFFFFF 0x41 0 [], .bwWrite 0xFFFFFFFF 1), (cmd 0x14 0 0 0 [], .bwPos),
      (cmd 0x15 0 0 0 [], .bwFlush), (cmd 0x16 0x41 0x7FF 0 [], .cbLookup 1 1023),
      (cmd 0x17 0 0x10002 0x10001 [], .encStart 1 2), (cmd 0x18 0x11005 0 0 [], .encPut 0x1005),
      (cmd 0x19 0 0 0 [], .encFinish)] : List (Command × Instr)).all (fun p => commandIs p.1 p.2) = true := by
  decide +kernel

/-- R56: the ends of the two gaps and a word with `CMD[7:5] ≠ 0` are no commands. -/
theorem test_illegal_command_words_are_rejected :
    ([0x0C, 0x0F, 0x1A, 0x1F, 0x20, 0x23, 0xFF] : List (BitVec 8)).all
      (fun c => match decodeCommand (cmd c 0 0 0 []) with | .ok _ => false | .error e => e == .illegalCommand c) =
      true := by decide +kernel

/-- The host's numbering: a command word, a 16-bit code, and the one kind of 8-bit code that is no command word. -/
theorem test_decodeTableWord : decodeTableWord 8 0x19 = some .encFinish ∧
    decodeTableWord 16 0b0000000000100000 = some (.vlcR0L40 false) ∧
    decodeTableWord 8 0b00001111 = some (.vlcR8L1 true) := by decide +kernel

/-- The fetch places the instruction: a command, and a code at the cursor. -/
theorem test_withFetchWord_runs_it : answer (State.reset.withFetchWord 8 0x05) = some (0, 0, 0) ∧
    answer (State.reset.withFetchWord 16 0b0000000000100000) = some (0, 1, 0x0028) := by decide +kernel

/-! ## One step: the reader (vectors BR, P3) -/

theorem test_readU_le16_and_be16 : answer (decOn (reader [0x34, 0x12] 0) 0x03 4 0 0) = some (0, 1, 0) ∧
    answer (decOn { reader [0x34, 0x12, 0x78, 0x56] 0 with order := .be16 } 0x03 32 0 0) =
      some (0, 0x34127856, 0) := by decide +kernel
theorem test_readU_width_33_raises_and_keeps_the_cursor :
    answer (decOn (reader [0x34, 0x12] 3) 0x03 33 0 0) = some (6, 0, 0) ∧
    decView (decOn (reader [0x34, 0x12] 3) 0x03 33 0 0) (fun d => (d.bitpos, d.phase, d.err)) =
      some (3, .fault, .programmingFault) := by decide +kernel
theorem test_readS_extends_the_top_bit :
    answer (decOn (reader [0x00, 0x80] 0) 0x04 10 0 0) = some (0, 0xFFFFFE00, 0) ∧
    answer (decOn (reader [0xC0, 0x7F] 0) 0x04 10 0 0) = some (0, 511, 0) := by decide +kernel
theorem test_readS_past_an_odd_byte_is_endOfStream :
    answer (decOn (reader [0x34, 0x12, 0x78] 16) 0x04 1 0 0) = some (2, 0, 0) := by decide +kernel
theorem test_brPos : answer (decOn (reader [0, 0, 0, 0, 0, 0, 0, 0, 0, 0] 74) 0x05 0 0 0) = some (0, 74, 4) := by
  decide +kernel
theorem test_brInit_of_nothing_re_initialises :
    decView (on { engine [1, 2] 5 .fault 9 with err := .readCorruption } Enc.reset (cmd 0x02 1 0 0 []))
      (fun d => (d.order, d.buflen, d.bitpos, d.phase, d.err)) = some (.be16, 0, 0, .idle, .none) := by decide +kernel
theorem test_brInit_offset_past_the_end_raises :
    answer (on Dec.reset Enc.reset (cmd 0x02 0 1 0 [])) = some (6, 0, 0) := by decide +kernel

/-! ## One step: the codebook (vectors CB, CL) -/

theorem test_cbDecode_cb2_and_cb4 : answer (decOn (reader [0x00, 0x48] 0) 0x06 0 0 0) = some (0, 0, 0x03FE) ∧
    answer (decOn (reader [0x00, 0x80] 0) 0x06 0 0 0) = some (0, 1, 0xFE00) := by decide +kernel
theorem test_cbDecode_ends : answer (decOn (reader [0, 0] 4) 0x06 0 0 0) = some (3, 0, 0) ∧
    answer (decOn (reader [0, 0] 6) 0x06 0 0 0) = some (2, 0, 0) := by decide +kernel
theorem test_cbLookup_hit : answer (encOn Enc.reset 0x16 1 0x3FF 0) = some (0, 0x401, 7) := by decide +kernel
theorem test_cbLookup_misses : answer (encOn Enc.reset 0x16 0 41 0) = some (0, 0, 0) ∧
    answer (encOn Enc.reset 0x16 0 512 0) = some (0, 0, 0) := by decide +kernel

/-! ## One step: the decode engine (vectors D, E8, E9) and the header (H, E1) -/

theorem test_decStart_faults : answer (decOn (reader [0, 0] 0) 0x08 0 4 0) = some (6, 0, 0) ∧
    answer (decOn (reader [0, 0] 0) 0x08 0 0 1) = some (6, 0, 0) := by decide +kernel
theorem test_decStart_perBlock_ignores_qscale :
    decView (decOn (reader [0, 0] 7) 0x08 1 9 2) (fun d => (d.qmode, d.qscale, d.mbtotal, d.phase, d.bitpos)) =
      some (.perBlock, 0, 2, .blockStart, 7) := by decide +kernel
theorem test_decStep_dc : answer (decOn (engine [0x00, 0x80] 0 .blockStart 62) 0x09 0 0 0) = some (0, 1, 0xFA00) ∧
    answer (decOn (engine [0x00, 0x80] 0 .blockStart 63) 0x09 0 0 0) = some (3, 0, 0) := by decide +kernel
theorem test_decStep_levelZero_escape_is_counted :
    decView (decOn (engine [0x30, 0x04, 0, 0] 0 .readingAc 1) 0x09 0 0 0)
      (fun d => (d.lastWord, d.esczero, d.bitpos, d.phase)) = some (0x0C00, 1, 22, .readingAc) := by decide +kernel
theorem test_decSkipMb_last_block :
    answer (decOn { engine [0x20, 0x00] 0 .blockStart 1 with blk := 5 } 0x0A 0 0 0) = some (0, 12, 1) ∧
    decView (decOn { engine [0x20, 0x00] 0 .blockStart 1 with blk := 5 } 0x0A 0 0 0)
      (fun d => (d.phase, d.mb, d.blk, d.codecount)) = some (.frameDone, 1, 0, 2) := by decide +kernel
theorem test_decSkipMb_keeps_the_steps_before_the_failing_one :
    answer (decOn (engine [0x20, 0x00] 0 .blockStart 1) 0x0A 0 0 0) = some (2, 0, 0) ∧
    decView (decOn (engine [0x20, 0x00] 0 .blockStart 1) 0x0A 0 0 0) (fun d => (d.bitpos, d.codecount, d.blk)) =
      some (12, 2, 1) := by decide +kernel
theorem test_decSkipPadding : answer (decOn (engine [0xC0, 0x7F] 0 .frameDone 1) 0x0B 0 0 0) = some (0, 0x3FE, 0) ∧
    answer (decOn (engine [0x00, 0x00] 0 .frameDone 1) 0x0B 0 0 0) = some (0, 0, 1) := by decide +kernel
theorem test_decSkipPadding_twice_raises :
    answer (decOn { engine [0xC0, 0x7F] 0 .frameDone 1 with paddone := true } 0x0B 0 0 0) = some (6, 0, 0) := by
  decide +kernel
theorem test_hdrParse_e1 :
    answer (decOn (reader [0x20, 0x00, 0x00, 0x38, 0x04, 0x00, 0x02, 0x00] 64) 0x07 0 0 0) = some (0, 1, 4) ∧
    decView (decOn (reader [0x20, 0x00, 0x00, 0x38, 0x04, 0x00, 0x02, 0x00] 64) 0x07 0 0 0)
      (fun d => (d.hdrHint, d.hdrQscale, d.hdrVersion, d.hdrValid, d.bitpos)) = some (32, 4, 2, true, 64) := by
  decide +kernel
theorem test_hdrParse_e2_and_h3 :
    answer (decOn (reader [0x20, 0x00, 0x00, 0x38, 0x04, 0x00, 0x03, 0x00] 0) 0x07 0 0 0) = some (1, 0, 0) ∧
    answer (decOn (reader [0x20, 0x00, 0x00, 0x38, 0x40, 0x00, 0x02, 0x00] 0) 0x07 0 0 0) = some (1, 0, 0) := by
  decide +kernel

/-! ## One step: the writer and the encode engine (vectors BW, EN, P2) -/

theorem test_bwWrite_masks_and_orders :
    encView (encOn Enc.reset 0x13 0xFFFFFC3E 10 0) (fun e => (e.wstream, e.wbits)) =
      some (bits 10 0b0000111110, 10) := by decide +kernel
theorem test_bwWrite_width_zero_raises : answer (encOn Enc.reset 0x13 1 0 0) = some (6, 0, 0) := by decide +kernel
theorem test_bwInit_keeps_version :
    encView (encOn { encoder .inBlock with version := 7, wbits := 3, wstream := bits 3 5 } 0x12 1 0 0)
      (fun e => (e.order, e.version, e.wbits, e.phase)) = some (.be16, 7, 0, .idle) := by decide +kernel
theorem test_bwPos : answer (encOn { Enc.reset with wbits := 22, wstream := bits 22 0 } 0x14 0 0 0) = some (0, 22, 1) := by
  decide +kernel
theorem test_bwFlush_e4 :
    encView (encOn { Enc.reset with wbits := 11, wstream := bits 11 0x3FE } 0x15 0 0 0)
      (fun e => (e.output, e.outlen, e.wbits)) = some ([0xC0, 0x7F], 2, 16) := by decide +kernel
theorem test_bwFlush_be16 :
    encView (encOn { Enc.reset with order := .be16, wbits := 32, wstream := bits 32 0x12345678 } 0x15 0 0 0)
      (fun e => e.output) = some [0x12, 0x34, 0x56, 0x78] := by decide +kernel
theorem test_encStart : answer (encOn Enc.reset 0x17 0 2 0) = some (6, 0, 0) ∧
    encView (encOn { encoder .fault with err := .incompatible } 0x17 0 2 1)
      (fun e => (e.phase, e.mbtotal, e.version, e.err)) = some (.blockStart, 1, 2, .none) := by decide +kernel
theorem test_encPut_dc : answer (encOn (encoder .blockStart) 0x18 0x13FF 0 0) = some (0, 10, 0) ∧
    answer (encOn { encoder .blockStart with qvalid := true, qscale := 4 } 0x18 0x1801 0 0) = some (4, 0, 0) := by
  decide +kernel
theorem test_encPut_ac : encView (encOn (encoder .inBlock) 0x18 0x07FF 0 0) (fun e => e.wstream) = some (bits 4 0b0111) ∧
    encView (encOn (encoder .inBlock) 0x18 0x0029 0 0) (fun e => e.wstream) =
      some (bits 22 0b0000010000000000101001) := by decide +kernel
/-- P2's last step: 75 bits, then the trailer, ten zero bits and the header give F1. -/
theorem test_encFinish_p2 :
    encView (encOn { encoder .frameDone with
        mb := 1, qscale := 4, qvalid := true, codecount := 13, wbits := 75,
        wstream := bits 75 0b000000010111010111111111110000000000010100000000010011111111110000000000010 } 0x19 0 0 0)
      (fun e => e.output) =
      some [0x20, 0x00, 0x00, 0x38, 0x04, 0x00, 0x02, 0x00, 0x75, 0x01, 0xC0, 0xFF, 0x00, 0x05, 0xFC, 0x4F, 0x4F, 0x00,
        0x00, 0xF8] := by decide +kernel
theorem test_encFinish_midFrame_raises : answer (encOn (encoder .blockStart) 0x19 0 0 0) = some (6, 0, 0) := by
  decide +kernel
/-- The values of R99's table. -/
theorem test_countHint : [0, 1, 2, 13, 18, 64, 65, 70, 65472, 65473].map countHint =
    [0, 32, 32, 32, 32, 32, 64, 64, 32736, 32768] := by decide +kernel

/-! ## One step: control and faults (vectors K) -/

theorem test_decReset_leaves_fault :
    decView (decOn { engine [1, 2] 5 .fault 9 with err := .readCorruption } 0x00 0 0 0) (fun d => d == Dec.reset) =
      some true := by decide +kernel
theorem test_encReset_restores_version :
    encView (encOn { encoder .fault with version := 9, err := .incompatible } 0x10 0 0 0) (fun e => e == Enc.reset) =
      some true := by decide +kernel
theorem test_regRead_k1_k3 : answer (decOn Dec.reset 0x01 0x12 0 0) = some (6, 0, 0) ∧
    answer (decOn Dec.reset 0x01 0x0F 0 0) = some (6, 0, 0) := by decide +kernel
theorem test_regRead_k4_k5 :
    answer (decOn { Dec.reset with phase := .fault, err := .programmingFault } 0x01 0x0F 0 0) = some (0, 0, 0) ∧
    answer (decOn { Dec.reset with phase := .fault, err := .programmingFault } 0x01 0x0C 0 0) = some (0, 6, 0) := by
  decide +kernel
theorem test_encRegRead_k2_k8 : answer (encOn Enc.reset 0x11 0x0C 0 0) = some (6, 0, 0) ∧
    answer (encOn Enc.reset 0x11 0x0A 0 0) = some (0, 2, 0) := by decide +kernel
theorem test_gate_k6 :
    answer (decOn { Dec.reset with phase := .fault, err := .programmingFault } 0x03 1 0 0) = some (6, 0, 0) := by
  decide +kernel
theorem test_illegal_words_k10_k11 : encView (encOn Enc.reset 0x1A 0 0 0) (fun e => e.phase) = some .fault ∧
    decView (decOn Dec.reset 0x23 0 0 0) (fun d => d.phase) = some .fault := by decide +kernel

/-! ## One step: elements where they do not stand, and the free value -/

theorem test_escape_of_endOfData_raises :
    (next? (exec (.esc 63 512) ⟨engine [0, 0, 0, 0] 0 .readingAc 1, Enc.reset, ⟨[], none⟩, 0⟩)).map
      (fun t => (t.dec.err, t.dec.bitpos)) = some (.readCorruption, 0) := by decide +kernel
theorem test_unknown_register_in_fault_moves_the_counter :
    (next? (step (encOn { encoder .fault with err := .incompatible } 0x11 0xFF 0 0))).map (fun t => (t.free, t.enc.err)) =
      some (1, .incompatible) := by decide +kernel

/-! ## Witnesses: for every obligation with hypotheses, states and operands that meet them, one for each clause -/

theorem witness_DecodeOfEncodeIsIdentity :
    (Instr.esc 63 513).wellFormed = true ∧ (Instr.dcPerBlock 62 512).wellFormed = true ∧
    (Instr.dcGlobal 512).wellFormed = true := by decide

theorem witness_EncodeOfDecodeIsIdentity :
    ∃ i, decodeStream .ac [true, true, false, true] = .ok (i, [true]) := ⟨.vlcR0L1 false, by rfl⟩

/-- The ends of the three ranges of R56, on both units. -/
theorem witness_IllegalCommandWordsRaise :
    (∀ c ∈ ([0x0C, 0x0F, 0x20, 0xEF] : List (BitVec 8)),
      ((0x0C ≤ c.toNat ∧ c.toNat ≤ 0x0F) ∨ (0x1A ≤ c.toNat ∧ c.toNat ≤ 0x1F) ∨ c.toNat / 32 ≠ 0) ∧
        c.getLsbD 4 = false) ∧
    (∀ c ∈ ([0x1A, 0x1F, 0x30, 0xFF] : List (BitVec 8)),
      ((0x0C ≤ c.toNat ∧ c.toNat ≤ 0x0F) ∨ (0x1A ≤ c.toNat ∧ c.toNat ≤ 0x1F) ∨ c.toNat / 32 ≠ 0) ∧
        c.getLsbD 4 = true) ∧
    (decOn Dec.reset 0x0C 0 0 0).port.pending = [cmd 0x0C 0 0 0 []] ∧
    (decOn Dec.reset 0x0C 0 0 0).dec.phase ≠ .fault ∧ (encOn Enc.reset 0x1A 0 0 0).enc.phase ≠ .fault ∧
    (decOn (engine [] 0 .fault 1) 0x0C 0 0 0).dec.phase = .fault ∧
    (encOn (encoder .fault) 0x1A 0 0 0).enc.phase = .fault := by decide

theorem witness_StepRunsTheDecodedCommand :
    (decOn Dec.reset 0x05 0 0 0).port.pending = cmd 0x05 0 0 0 [] :: [] ∧
    decodeCommand (cmd 0x05 0 0 0 []) = .ok .brPos ∧ (∃ t, step (decOn Dec.reset 0x05 0 0 0) = .next t) ∧
    State.reset.port.pending = [] := ⟨rfl, rfl, ⟨_, rfl⟩, rfl⟩

theorem witness_EveryInstructionAnswersOnce : ∃ t, exec .brPos State.reset = .next t := ⟨_, rfl⟩

theorem witness_CursorOnlyAdvances :
    State.reset.dec.bitpos.toNat ≤ State.reset.dec.nbits.toNat ∧ ∃ t, exec .hdrParse State.reset = .next t :=
  ⟨by decide, _, rfl⟩

theorem witness_MemoriesHaveOneWriter :
    (∃ t, exec .brPos State.reset = .next t) ∧ ∃ t, exec .bwFlush State.reset = .next t := ⟨⟨_, rfl⟩, _, rfl⟩

theorem witness_RaiseRollsBack :
    (∃ t, exec .decStep State.reset = .next t ∧ State.reset.dec.phase ≠ .fault ∧ t.dec.phase = .fault) ∧
    ∃ t, exec .encFinish State.reset = .next t ∧ State.reset.enc.phase ≠ .fault ∧ t.enc.phase = .fault :=
  ⟨⟨_, rfl, by decide, rfl⟩, _, rfl, by decide, rfl⟩

theorem witness_ErrorsComeFromTheirCommands :
    (∃ t, exec (.brReadU 1) State.reset = .next t ∧ State.reset.dec.phase ≠ .fault ∧ t.dec.phase = .fault) ∧
    ∃ t, exec (.encPut 1) State.reset = .next t ∧ State.reset.enc.phase ≠ .fault ∧ t.enc.phase = .fault :=
  ⟨⟨_, rfl, by decide, rfl⟩, _, rfl, by decide, rfl⟩

theorem witness_UnitsShareNothing :
    ((∃ t, exec .brPos State.reset = .next t) ∧ Claims.isEncCommand .brPos = false) ∧
    (∃ t, exec .bwFlush State.reset = .next t) ∧ Claims.isEncCommand .bwFlush = true :=
  ⟨⟨⟨_, rfl⟩, rfl⟩, ⟨_, rfl⟩, rfl⟩

theorem witness_TableHasItsProperties :
    17 ≤ (List.replicate 17 false).length ∧ ((0, 1) : Nat × Nat) ∈ normalPairs strv2Table := by decide +kernel

theorem witness_CountHintIsTheLeastMultiple : 32 ∣ 64 ∧ 128 ≤ 2 * 64 := by decide

theorem witness_DecStepRunsTheElementAtTheCursor :
    (decOn (engine [0, 0x80] 0 .readingAc 1) 0x09 0 0 0).underCbDecode = false ∧
    (engine [0, 0x80] 0 .readingAc 1).phase = .readingAc ∧
    ((engine [0, 0x80] 0 .blockStart 1).phase = .blockStart ∧ (engine [0, 0x80] 0 .blockStart 1).qmode = .global) ∧
    ({ engine [0, 0x80] 0 .blockStart 1 with qmode := .perBlock } : Dec).qmode = .perBlock := by decide

theorem witness_CbDecodeRunsTheElementAtTheCursor :
    (decOn (reader [0, 0x80] 0) 0x06 0 0 0).underCbDecode = true ∧
    (decOn (reader [0, 0x80] 0) 0x06 0 0 0).dec.phase ≠ .fault := by decide

/-- Too long for any `BUF_MAX`; an offset past the end; nothing at all, at offset 0. -/
theorem witness_BrInitConstructsTheReader :
    Config.bufMax.val < (List.replicate (2 ^ 29) (0 : Byte)).length ∧
    (([] : List Byte).length ≤ Config.bufMax.val ∧ 16 * (([] : List Byte).length / 2) < (1 : Word32).toNat) ∧
    (([] : List Byte).length ≤ Config.bufMax.val ∧ (0 : Word32).toNat ≤ 16 * (([] : List Byte).length / 2)) := by
  refine ⟨?_, ⟨Nat.zero_le _, by decide⟩, Nat.zero_le _, by decide⟩
  rw [List.length_replicate]
  exact Config.bufMax.isLt

theorem witness_RawReadsReturnTheBits :
    let s := decOn (reader [0x34, 0x12, 0x78, 0x56] 0) 0x03 0 0 0
    s.dec.phase ≠ .fault ∧ (0#6).toNat < 1 ∧ 32 < (33#6).toNat ∧
    (1 ≤ (32#6).toNat ∧ (32#6).toNat ≤ 32 ∧ Claims.bitsThere s.dec 32) ∧
    ¬ Claims.bitsThere (reader [0x34, 0x12, 0x78, 0x56] 32) 1 := by
  unfold Claims.bitsThere; decide

theorem witness_PositionsAreReported : State.reset.dec.phase ≠ .fault ∧ State.reset.enc.phase ≠ .fault := by decide

theorem witness_StreamBitsFollowTheByteOrder :
    (reader [] 0).order = .le16 ∧ ({ reader [] 0 with order := .be16 } : Dec).order = .be16 ∧
    0 % 16 < 8 ∧ 7 % 16 < 8 ∧ 8 ≤ 8 % 16 ∧ 8 ≤ 15 % 16 := by decide

theorem witness_MatchDependsOnTheBitsAlone :
    (∃ e ∈ Config.codebook.entries, ∃ e' ∈ Config.codebook.entries, e.pfx = e'.pfx) ∧
    Config.codebook.entries.Perm Config.codebook.entries ∧
    (reader [0, 0x80] 0).remaining = ({ reader [0, 0x80] 0 with order := .le16 } : Dec).remaining :=
  ⟨⟨⟨[true, false], .eob⟩, by decide +kernel, ⟨[true, false], .eob⟩, by decide +kernel, rfl⟩, List.Perm.refl _, rfl⟩

theorem witness_MatchFindsThePrefix :
    (⟨[true, false], .eob⟩ : Entry) ∈ Config.codebook.entries ∧ [true, false] <+: (reader [0, 0x80] 0).remaining ∧
    (∀ e ∈ Config.codebook.entries, ¬ e.pfx <+: (reader [0, 0] 5).remaining) ∧
    (∃ e ∈ Config.codebook.entries, (reader [0, 0] 5).remaining <+: e.pfx) ∧
    (∀ e ∈ Config.codebook.entries, ¬ e.pfx <+: (reader [0, 0] 4).remaining) ∧
    (∀ e ∈ Config.codebook.entries, ¬ (reader [0, 0] 4).remaining <+: e.pfx) := by decide +kernel

theorem witness_DecodeInvertsLookup :
    (⟨[true, true], .normal 0 1⟩ : Entry) ∈ Claims.entries ∧
    (cbLookup Config.codebook 0 1 = some [true, true, false] ∧
      [true, true, false] <+: (reader [0, 0xC0] 0).remaining) ∧
    (cbLookup Config.codebook 63 511 = none ∧ pack 63 511 ≠ 0xFE00 ∧
      ([false, false, false, false, false, true] ++ wordBits (63#6) ++ wordBits (511#10)) <+:
        (reader [0xF7, 0x07, 0x00, 0xFC] 0).remaining) := by decide +kernel

theorem witness_CbDecodeReportsTheCode :
    (reader [0, 0xC0] 0).phase ≠ .fault ∧ (reader [0, 0] 16).phase ≠ .fault ∧
    ((⟨[true, true], .normal 0 1⟩ : Entry) ∈ Claims.entries ∧
      ([true, true] ++ [false]) <+: (reader [0, 0xC0] 0).remaining) ∧
    [true, false] <+: (reader [0, 0x80] 0).remaining ∧
    ([false, false, false, false, false, true] ++ wordBits (0xFDFF#16)) <+: (reader [0xF7, 0x07, 0x00, 0xFC] 0).remaining ∧
    ([false, false, false, false, false, true] ++ wordBits (0xFE00#16)) <+: (reader [0xF8, 0x07, 0, 0] 0).remaining ∧
    List.replicate 12 false <+: (reader [0, 0] 4).remaining ∧ (reader [0, 0] 16).remaining = [] := by decide +kernel

theorem witness_CbLookupReportsTheCode :
    Enc.reset.phase ≠ .fault ∧
    (∃ e ∈ Claims.entries, e.kind = .normal (0#6).toNat (984#10).toInt.natAbs) ∧
    (∀ e ∈ Claims.entries, e.kind ≠ .normal (0#6).toNat (983#10).toInt.natAbs) := by decide +kernel

/-- The first and the longest code, with exactly their bits there and with one bit too few. -/
theorem witness_VlcCodesAreEmitted :
    (∃ r ∈ vlcRows, r.pfx.length + 1 = 17) ∧ (∃ r ∈ vlcRows, r.pfx.length + 1 = 3) ∧
    (decOn (engine [0, 0, 0, 0] 15 .readingAc 1) 0x09 0 0 0).underCbDecode = false ∧
    (engine [0, 0, 0, 0] 15 .readingAc 1).phase = .readingAc ∧
    Claims.bitsThere (engine [0, 0, 0, 0] 15 .readingAc 1) 17 ∧
    ¬ Claims.bitsThere (engine [0, 0, 0, 0] 16 .readingAc 1) 17 := by
  unfold Claims.bitsThere; decide +kernel

theorem witness_VlcCodesAreReportedUnderCbDecode :
    (∃ r ∈ vlcRows, r.pfx.length + 1 = 3) ∧ (decOn (reader [0, 0] 13) 0x06 0 0 0).underCbDecode = true ∧
    (reader [0, 0] 13).phase ≠ .fault ∧ Claims.bitsThere (reader [0, 0] 13) 3 := by
  unfold Claims.bitsThere; decide +kernel

theorem witness_RowsAreTheTable : (Instr.vlcR27L1 true).position = .ac ∧ (Instr.esc 0 0).position = .ac ∧
    Instr.eob.position = .ac ∧ (∃ r ∈ vlcRows, r.run = 27) := by decide +kernel

theorem witness_EobAndEscAreEmitted :
    (decOn (engine [0, 0, 0, 0] 10 .readingAc 1) 0x09 0 0 0).underCbDecode = false ∧
    (engine [0, 0, 0, 0] 10 .readingAc 1).phase = .readingAc ∧
    Claims.bitsThere (engine [0, 0, 0, 0] 10 .readingAc 1) 22 ∧
    ¬ Claims.bitsThere (engine [0, 0, 0, 0] 11 .readingAc 1) 22 ∧
    Claims.bitsThere (engine [0, 0, 0, 0] 30 .readingAc 1) 2 ∧
    ¬ Claims.bitsThere (engine [0, 0, 0, 0] 31 .readingAc 1) 2 ∧
    (63#6) ++ (512#10) = 0xFE00#16 ∧ (63#6) ++ (513#10) ≠ 0xFE00#16 := by
  unfold Claims.bitsThere; decide

theorem witness_DcFieldsAreEmitted :
    (decOn (engine [0, 0] 6 .blockStart 63) 0x09 0 0 0).underCbDecode = false ∧
    (engine [0, 0] 6 .blockStart 63).phase = .blockStart ∧ (engine [0, 0] 6 .blockStart 63).qmode = .global ∧
    (engine [0, 0] 6 .blockStart 63).qscale = 63 ∧ Claims.bitsThere (engine [0, 0] 6 .blockStart 63) 10 ∧
    ¬ Claims.bitsThere (engine [0, 0] 7 .blockStart 63) 10 ∧
    ({ engine [0, 0] 0 .blockStart 1 with qmode := .perBlock } : Dec).qmode = .perBlock ∧
    Claims.bitsThere { engine [0, 0] 0 .blockStart 1 with qmode := .perBlock } 16 ∧
    ¬ Claims.bitsThere { engine [0, 0] 1 .blockStart 1 with qmode := .perBlock } 16 := by
  unfold Claims.bitsThere; decide

theorem witness_TrailerIsAccepted :
    (engine [0xC0, 0x7F] 0 .frameDone 1).phase = .frameDone ∧ (engine [0xC0, 0x7F] 0 .frameDone 1).paddone = false ∧
    Claims.bitsThere (engine [0xC0, 0x7F] 5 .frameDone 1) 11 ∧
    ¬ Claims.bitsThere (engine [0xC0, 0x7F] 6 .frameDone 1) 11 ∧
    [false, true, true, true, true, true, true, true, true, true, false] <+:
      (engine [0xC0, 0x7F] 0 .frameDone 1).remaining ∧
    Dec.reset.phase ≠ .fault ∧ Dec.reset.phase ≠ .frameDone ∧
    ({ engine [] 0 .frameDone 1 with paddone := true } : Dec).phase = .frameDone ∧
    ({ engine [] 0 .frameDone 1 with paddone := true } : Dec).paddone = true := by
  unfold Claims.bitsThere; decide +kernel

theorem witness_MisplacedElementsDoNotRun :
    Instr.trailer.position ≠ .command ∧ (engine [] 0 .fault 1).phase = .fault ∧
    (∀ i ∈ [Instr.eob, .dcGlobal 0, .dcPerBlock 0 0],
      i.position = .ac ∨ i.position = .dcGlobal ∨ i.position = .dcPerBlock) ∧
    Dec.reset.phase = .idle ∧ (engine [] 0 .blockDone 1).phase = .blockDone ∧
    (engine [] 0 .frameDone 1).phase = .frameDone ∧ Instr.eob.position = .ac ∧ (decOn (engine [] 0 .blockStart 1) 0x09 0 0 0).underCbDecode = false ∧
    (engine [] 0 .blockStart 1).phase = .blockStart ∧ (engine [] 0 .blockStart 1).qmode = .global ∧
    (engine [] 0 .readingAc 1).phase = .readingAc ∧
    ({ engine [] 0 .blockStart 1 with qmode := .perBlock } : Dec).qmode = .perBlock := by decide

theorem witness_DecStartBeginsAFrame : Dec.reset.phase ≠ .fault ∧
    ((1 : BitVec 16) ≠ 0 ∧ (QMode.global = .perBlock ∨ (1 : BitVec 6) ≠ 0)) ∧
    ((65535 : BitVec 16) ≠ 0 ∧ (QMode.perBlock = .perBlock ∨ (0 : BitVec 6) ≠ 0)) := by decide

theorem witness_DecStepBetweenElements :
    Dec.reset.phase = .idle ∧ (engine [] 0 .blockDone 1).phase = .blockDone ∧ (engine [] 0 .blockDone 1).blk ≠ 5 ∧
    (let d : Dec := { engine [] 0 .blockDone 1 with blk := 5 }; d.blk = 5 ∧ d.mb + 1 = d.mbtotal) ∧
    (let d : Dec := { engine [] 0 .blockDone 1 with blk := 5, mbtotal := 2 }; d.blk = 5 ∧ d.mb + 1 ≠ d.mbtotal) ∧
    (engine [] 0 .frameDone 1).phase = .frameDone := by decide

theorem witness_DecStepReadsTheDc :
    (engine [0x00, 0x80] 0 .blockStart 63).phase = .blockStart ∧
    Claims.bitsThere (engine [0x00, 0x80] 0 .blockStart 63) 10 ∧
    (63#6) ++ BitVec.ofNat 10 (bitsToNat ((engine [0x00, 0x80] 0 .blockStart 63).streamBits 0 10)) = 0xFE00#16 ∧
    (62#6) ++ BitVec.ofNat 10 (bitsToNat ((engine [0x00, 0x80] 0 .blockStart 62).streamBits 0 10)) ≠ 0xFE00#16 ∧
    ¬ Claims.bitsThere (engine [0x00, 0x80] 7 .blockStart 62) 10 ∧
    ({ engine [0, 0] 0 .blockStart 1 with qmode := .perBlock } : Dec).qmode = .perBlock := by
  unfold Claims.bitsThere; decide +kernel

theorem witness_DecStepReadsAnAcCode :
    (∃ k w d, decodeAC Config.codebook (engine [0, 0x80] 0 .readingAc 1) = .ok (k, w, d)) ∧
    decodeAC Config.codebook (engine [] 0 .readingAc 1) = .error .endOfStream ∧
    (engine [] 0 .readingAc 1).phase = .readingAc := ⟨⟨_, _, _, rfl⟩, rfl, rfl⟩

theorem witness_SkipPaddingOnlyWarns :
    (engine [0, 0] 5 .frameDone 1).phase ≠ .fault ∧ (engine [0, 0] 5 .frameDone 1).phase = .frameDone ∧
    (engine [0, 0] 5 .frameDone 1).paddone = false ∧ Claims.bitsThere (engine [0, 0] 5 .frameDone 1) 11 ∧
    ¬ Claims.bitsThere (engine [0, 0] 6 .frameDone 1) 11 ∧ (engine [0, 0] 5 .blockDone 1).phase ≠ .frameDone ∧
    ({ engine [0, 0] 5 .frameDone 1 with paddone := true } : Dec).paddone = true := by
  unfold Claims.bitsThere; decide

/-- A decode engine over no bytes after `n` empty blocks with DC 1 and qscale 1 of a one-macroblock frame. -/
def blocksDone (n : Nat) (p : DecPhase) (mb : BitVec 16) (blk : BitVec 3) : Dec :=
  { engine [] 0 p 1 with
    mb := mb
    blk := blk
    codecount := BitVec.ofNat 32 (2 * n)
    lastWord := 0xFE00
    lastValid := true
    out := (List.replicate n [0x0401#16, 0xFE00#16]).flatten }

/-- Five blocks and the sixth closed, the advance still to come. -/
theorem inv_sixth_block_closed : (blocksDone 6 .blockDone 0 5).Inv := by
  constructor <;> first
    | decide
    | (intro a _; rfl)
    | exact ⟨rfl, rfl, rfl⟩
    | (show scanBlocks _ _ = _; decide)

/-- The first block closed. -/
theorem inv_first_block_closed : (blocksDone 1 .blockDone 0 0).Inv := by
  constructor <;> first
    | decide
    | (intro a _; rfl)
    | exact ⟨rfl, rfl, rfl⟩
    | (show scanBlocks _ _ = _; decide)

/-- The frame done. -/
theorem inv_frame_done : (blocksDone 6 .frameDone 1 0).Inv := by
  constructor <;> first
    | decide
    | (intro a _; rfl)
    | exact ⟨rfl, rfl, rfl⟩
    | (show scanBlocks _ _ = _; decide)

/-- One run that ends in `FRAME_DONE` after one step, one that raises at its second, and the terminal state. -/
theorem witness_SkipMbIsTheEngineRunToItsEnd :
    Dec.reset.phase = .idle ∧
    ((blocksDone 6 .blockDone 0 5).Inv ∧ (blocksDone 6 .blockDone 0 5).started ∧
      Claims.engineAfter 1 (blocksDone 6 .blockDone 0 5) = some (blocksDone 6 .frameDone 1 0)) ∧
    ((blocksDone 1 .blockDone 0 0).Inv ∧ (blocksDone 1 .blockDone 0 0).started ∧
      Claims.engineAfter 1 (blocksDone 1 .blockDone 0 0) = some (blocksDone 1 .blockStart 0 1) ∧
      (blocksDone 1 .blockStart 0 1).step = .error .endOfStream) ∧
    (∃ r d, (engine [0, 0x80] 0 .readingAc 1).step = .ok (r, d)) ∧
    (∃ r d, (engine [0, 0x80] 0 .blockStart 1).step = .ok (r, d)) ∧
    (∃ r d, (engine [0, 0x80] 0 .blockDone 1).step = .ok (r, d)) :=
  ⟨rfl, ⟨inv_sixth_block_closed, .inr (.inr (.inl rfl)), rfl⟩,
    ⟨inv_first_block_closed, .inr (.inr (.inl rfl)), rfl, rfl⟩, ⟨_, _, rfl⟩, ⟨_, _, rfl⟩, ⟨_, _, rfl⟩⟩

theorem witness_OutputIsSixBlocksPerMacroblock :
    (blocksDone 6 .frameDone 1 0).Inv ∧ (blocksDone 6 .frameDone 1 0).phase = .frameDone := ⟨inv_frame_done, rfl⟩

/-- E1's header with the hint at its two ends, and headers that fail each check at its boundary. -/
theorem witness_HdrParseValidatesTheHeader :
    let valid (l : List Byte) : Bool :=
      8 ≤ (reader l 0).buflen.toNat ∧ ((reader l 0).buf.read 1).toNat < 128 ∧ (reader l 0).buf.read 2 = 0x00 ∧
        (reader l 0).buf.read 3 = 0x38 ∧ 1 ≤ ((reader l 0).buf.read 4).toNat ∧ ((reader l 0).buf.read 4).toNat ≤ 63 ∧
        (reader l 0).buf.read 5 = 0 ∧ (reader l 0).buf.read 6 = 2 ∧ (reader l 0).buf.read 7 = 0
    (reader [] 0).phase ≠ .fault ∧ valid [0xFF, 0x7F, 0, 0x38, 1, 0, 2, 0] = true ∧
    valid [0, 0, 0, 0x38, 63, 0, 2, 0] = true ∧ valid [0, 0x80, 0, 0x38, 1, 0, 2, 0] = false ∧
    valid [0, 0, 0, 0x38, 64, 0, 2, 0] = false ∧ valid [0, 0, 0, 0x38, 0, 0, 2, 0] = false ∧
    valid [0, 0, 0, 0x38, 1, 0, 2] = false := by decide +kernel

theorem witness_BuiltHeadersAreValid :
    (32767#16).toNat ≤ 32767 ∧ 1 ≤ (63#6).toNat ∧ 8 ≤ (reader (headerBytes 32767 63 2) 0).buflen.toNat ∧
    (∀ i < 8, (reader (headerBytes 32767 63 2) 0).buf.read i = (headerBytes 32767 63 2)[i]?.getD 0) := by
  decide +kernel

theorem witness_WriterIsInitialisedAndWritten :
    Enc.reset.phase ≠ .fault ∧ (0#6).toNat < 1 ∧ 32 < (33#6).toNat ∧ 1 ≤ (32#6).toNat ∧ (32#6).toNat ≤ 32 ∧
    2 ^ 32 - 1 < ({ Enc.reset with wbits := 4294967264 } : Enc).wbits.toNat + 32 ∧
    ({ Enc.reset with wbits := 4294967263 } : Enc).wbits.toNat + 32 ≤ 2 ^ 32 - 1 := by decide

/-- A writer that holds a bit string and nothing else. -/
def writer (b : Bits) : Enc := { Enc.reset with wbits := BitVec.ofNat 32 b.length, wstream := b }

theorem writer_wbits {b : Bits} (hb : b.length < 2 ^ 32) : (writer b).wbits.toNat = b.length := by
  simp only [writer, BitVec.toNat_ofNat]
  omega

theorem writer_inv {b : Bits} (hb : b.length < 2 ^ 32) : (writer b).Inv where
  obuf_wf := rfl
  wbits_len := writer_wbits hb
  blk_range := by simp [writer, Enc.reset]
  mb_le := Nat.le_refl _
  mb_eq := fun _ => .inl rfl
  frame_done := by rintro (h | h) <;> cases h
  count := rfl
  two_bits_each := Nat.zero_le _
  qscale_none := fun _ => ⟨rfl, rfl⟩
  qscale_range := fun h => by cases h
  err_iff := by constructor <;> intro h <;> first | exact absurd rfl h | cases h
  err_never := by simp [writer, Enc.reset]
  input := rfl

/-- A writer of any length within its capacity. -/
theorem exists_writer (n : Nat) (hn : n < 2 ^ 32) :
    ∃ b : Bits, (writer b).Inv ∧ (writer b).wbits.toNat = n := by
  have hl : (List.replicate n false).length = n := List.length_replicate
  exact ⟨List.replicate n false, writer_inv (by omega), by rw [writer_wbits (by omega), hl]⟩

/-- The two sides of the writer's limit: 2^28 words do not fit, one bit less does. -/
theorem witness_FlushStoresTheWords :
    (∃ b, (writer b).Inv ∧ (writer b).phase ≠ .fault ∧ 2 ^ 32 - 1 < 16 * (((writer b).wbits.toNat + 15) / 16)) ∧
    (∃ b, (writer b).Inv ∧ (writer b).phase ≠ .fault ∧ 16 * (((writer b).wbits.toNat + 15) / 16) ≤ 2 ^ 32 - 1) := by
  obtain ⟨b, hi, hb⟩ := exists_writer 4294967281 (by omega)
  obtain ⟨b', hi', hb'⟩ := exists_writer 4294967280 (by omega)
  exact ⟨⟨b, hi, nofun, by rw [hb]; omega⟩, b', hi', nofun, by rw [hb']; omega⟩

theorem witness_WriterAndReaderAreInverses :
    (bits 16 0x1234).length = 16 * 1 ∧ (reader [0x34, 0x12] 0).order = .le16 ∧
    streamBytes .le16 (bits 16 0x1234) 1 = [0x34, 0x12] ∧
    (∀ i < 2, (reader [0x34, 0x12] 0).buf.read i = [0x34, 0x12].getD i 0) := by decide +kernel

theorem witness_PutOpensABlock :
    (encoder .blockStart).phase = .blockStart ∧ topField 0x03FF = 0 ∧
    (let e : Enc := { encoder .blockStart with qvalid := true, qscale := 4 };
      (0x1801 : Code) ≠ 0xFE00 ∧ e.qvalid = true ∧ topField 0x1801 ≠ e.qscale ∧
      topField 0x13FF ≠ 0 ∧ topField 0x13FF = e.qscale) ∧
    2 ^ 32 - 1 < ({ encoder .blockStart with wbits := 4294967286 } : Enc).wbits.toNat + 10 ∧
    ({ encoder .blockStart with wbits := 4294967285 } : Enc).wbits.toNat + 10 ≤ 2 ^ 32 - 1 := by decide

theorem witness_PutContinuesABlock :
    (encoder .inBlock).phase = .inBlock ∧ (0xFDFF : Code) ≠ 0xFE00 ∧
    2 ^ 32 - 1 < ({ encoder .inBlock with wbits := 4294967294 } : Enc).wbits.toNat + 2 ∧
    ({ encoder .inBlock with wbits := 4294967293 } : Enc).wbits.toNat + 2 ≤ 2 ^ 32 - 1 := by decide

theorem witness_PutOutOfSequenceRaises :
    Enc.reset.phase = .idle ∧ (encoder .frameDone).phase = .frameDone ∧ (encoder .finished).phase = .finished := by decide

theorem witness_EveryAcWordIsEncodable :
    (encoder .inBlock).phase = .inBlock ∧ (0xFDFF : Code) ≠ 0xFE00 ∧
    ({ encoder .inBlock with wbits := 4294967273 } : Enc).wbits.toNat + 22 ≤ 2 ^ 32 - 1 ∧
    ([false, false, false, false, false, true] ++ natToBits 16 0xFDFF) <+:
      (reader [0xF7, 0x07, 0x00, 0xFC] 0).remaining ∧
    ∃ t, exec .encFinish State.reset = .next t :=
  ⟨by decide, by decide, by decide, by decide +kernel, _, rfl⟩

/-- The encode engine after the last block of a one-macroblock frame, with the words it took and its stream. -/
def finishing (ws : List Code) (b : Bits) : Enc :=
  { encoder .frameDone with
    mb := 1
    qscale := 1
    qvalid := true
    codecount := BitVec.ofNat 32 ws.length
    wbits := BitVec.ofNat 32 b.length
    wstream := b
    taken := ws }

theorem finishing_inv {ws : List Code} {b : Bits} (hb : b.length < 2 ^ 32) (hw : 2 * ws.length ≤ b.length)
    (hs : scanBlocks (fun w => topField w == 1) ws = some (6, false)) : (finishing ws b).Inv where
  obuf_wf := rfl
  wbits_len := by simp only [finishing, BitVec.toNat_ofNat]; omega
  blk_range := by simp [finishing, encoder, Enc.reset]
  mb_le := by simp [finishing, encoder]
  mb_eq := fun _ => .inr (.inl rfl)
  frame_done := fun _ => ⟨rfl, rfl, by simp [finishing, encoder]⟩
  count := by simp only [finishing, BitVec.toNat_ofNat]; omega
  two_bits_each := hw
  qscale_none := fun h => by cases h
  qscale_range := fun _ => by simp [finishing]
  err_iff := by constructor <;> intro h <;> first | exact absurd rfl h | cases h
  err_never := by simp [finishing, encoder, Enc.reset]
  input := hs

/-- The words of six blocks with DC 1 and qscale 1, the first with `n` AC words. -/
def sixBlocks (n : Nat) : List Code :=
  0x0401 :: (List.replicate n 0x0001 ++ [0xFE00, 0x0401, 0xFE00, 0x0401, 0xFE00, 0x0401, 0xFE00, 0x0401, 0xFE00, 0x0401,
    0xFE00])

theorem sixBlocks_length (n : Nat) : (sixBlocks n).length = n + 12 := by simp [sixBlocks]

theorem scan_ac_words (f : Code → Bool) (n : Nat) (k : Nat) :
    (List.replicate n (0x0001 : Code)).foldl (scanWord f) (some (k, true)) = some (k, true) := by
  induction n with
  | zero => rfl
  | succ n ih => exact ih

theorem sixBlocks_scan (n : Nat) : scanBlocks (fun w => topField w == 1) (sixBlocks n) = some (6, false) := by
  rw [scanBlocks, sixBlocks, List.foldl_cons, List.foldl_append]
  have h : scanWord (fun w => topField w == 1) (some (0, false)) 0x0401 = some (0, true) := by decide
  rw [h, scan_ac_words]
  decide

theorem finishing_wbits (ws : List Code) {b : Bits} (hb : b.length < 2 ^ 32) : (finishing ws b).wbits.toNat = b.length := by
  simp only [finishing, BitVec.toNat_ofNat]
  omega

theorem finishing_count (n : Nat) (b : Bits) : (finishing (sixBlocks n) b).codecount = BitVec.ofNat 32 (n + 12) := by
  rw [← sixBlocks_length]
  rfl

/-- A stream of `n` bits after six blocks with `k` more AC words. -/
theorem exists_finishing (k n : Nat) (hn : n < 2 ^ 32) (hk : 2 * (k + 12) ≤ n) :
    ∃ b : Bits, (finishing (sixBlocks k) b).Inv ∧ (finishing (sixBlocks k) b).wbits.toNat = n := by
  have hl : (List.replicate n false).length = n := List.length_replicate
  refine ⟨List.replicate n false, finishing_inv (by omega) (by rw [sixBlocks_length]; omega) (sixBlocks_scan k), ?_⟩
  rw [finishing_wbits _ (by omega), hl]

/-- 65473 words, one more than the hint can say; then twelve words with just room for the trailer; and mid-frame. -/
theorem witness_FinishAssemblesTheFrame :
    (∃ b, (finishing (sixBlocks 65461) b).Inv ∧ (finishing (sixBlocks 65461) b).phase = .frameDone ∧
      32767 < countHint (finishing (sixBlocks 65461) b).codecount.toNat) ∧
    (∃ b, (finishing (sixBlocks 0) b).Inv ∧ (finishing (sixBlocks 0) b).phase = .frameDone ∧
      countHint (finishing (sixBlocks 0) b).codecount.toNat ≤ 32767 ∧
      16 * (((finishing (sixBlocks 0) b).wbits.toNat + 11 + 15) / 16) ≤ 2 ^ 32 - 1) ∧
    ((writer []).Inv ∧ (writer []).phase ≠ .fault ∧ (writer []).phase ≠ .frameDone) := by
  refine ⟨?_, ?_, writer_inv (by decide), by decide, by decide⟩
  · obtain ⟨b, hi, _⟩ := exists_finishing 65461 200000 (by omega) (by omega)
    exact ⟨b, hi, rfl, by rw [finishing_count]; decide +kernel⟩
  · obtain ⟨b, hi, hb⟩ := exists_finishing 0 4294967269 (by omega) (by omega)
    exact ⟨b, hi, rfl, by rw [finishing_count]; decide +kernel, by rw [hb]; omega⟩

theorem witness_FinishOnAFullWriterRaises :
    ∃ b, (finishing (sixBlocks 0) b).Inv ∧ (finishing (sixBlocks 0) b).phase = .frameDone ∧
      countHint (finishing (sixBlocks 0) b).codecount.toNat ≤ 32767 ∧
      2 ^ 32 - 1 < 16 * (((finishing (sixBlocks 0) b).wbits.toNat + 11 + 15) / 16) := by
  obtain ⟨b, hi, hb⟩ := exists_finishing 0 4294967270 (by omega) (by omega)
  exact ⟨b, hi, rfl, by rw [finishing_count]; decide +kernel, by rw [hb]; omega⟩

theorem witness_EncodeThenDecodeGivesTheWords :
    1 ≤ (1#6).toNat ∧ 1 ≤ (1#16).toNat ∧ Claims.frameWords 1 (1#16).toNat (sixBlocks 0) ∧
    (sixBlocks 0).length ≤ 65472 ∧ Enc.reset.obuf.wf = true := by
  refine ⟨by decide, by decide, ⟨List.replicate 6 (0x0401, []), rfl, rfl, ?_⟩, by rw [sixBlocks_length]; omega, rfl⟩
  intro b hb
  rw [List.eq_of_mem_replicate hb]
  exact ⟨by decide, by decide, nofun⟩

theorem inv_faulted : ({ Dec.reset with phase := .fault, err := .programmingFault } : Dec).Inv := by
  constructor <;> first
    | decide
    | (intro a _; rfl)
    | exact ⟨rfl, rfl, rfl⟩
    | (rintro (h | h | h | h) <;> cases h)
    | exact ⟨_, rfl⟩

theorem witness_RegisterReadsShowTheRegisters :
    (({ Dec.reset with phase := .fault, err := .programmingFault } : Dec).Inv ∧
      ({ Dec.reset with phase := .fault, err := .programmingFault } : Dec).phase = .fault ∧
      ({ Dec.reset with phase := .fault, err := .programmingFault } : Dec).hdrValid = false) ∧ (encoder .fault).phase = .fault ∧
    ((0x11, 0) : BitVec 8 × Nat) ∈ Claims.decRegisters Dec.reset ∧
    ((0x03, 16) : BitVec 8 × Nat) ∈ Claims.decRegisters (reader [0, 0, 0] 0) ∧
    ((0x0E, 0) : BitVec 8 × Nat) ∈ Claims.decRegisters Dec.reset ∧
    Dec.reset.phase ≠ .fault ∧ Dec.reset.hdrValid = false ∧ 0x12 ≤ (0x12#8).toNat ∧
    ((0x0B, 0) : BitVec 8 × Nat) ∈ Claims.encRegisters Enc.reset ∧ Enc.reset.phase ≠ .fault ∧ 0x0C ≤ (0x0C#8).toNat :=
  ⟨⟨inv_faulted, rfl, rfl⟩, rfl, by decide⟩

theorem witness_UnknownRegisterInFaultDoesNotRaise :
    (engine [] 0 .fault 1).phase = .fault ∧ 0x12 ≤ (0x12#8).toNat ∧ (encoder .fault).phase = .fault ∧
    0x0C ≤ (0xFF#8).toNat := by decide

theorem witness_FaultGateHolds :
    Instr.decStep.position = .command ∧ Instr.encFinish.position = .command ∧
    Claims.isEncCommand .decStep = false ∧ (engine [] 0 .fault 1).phase = .fault ∧
    Claims.isEncCommand .encFinish = true ∧ (encoder .fault).phase = .fault ∧
    (decOn (engine [] 0 .fault 1) 0x0C 0 0 0).port.pending = [cmd 0x0C 0 0 0 []] ∧
    (encOn (encoder .fault) 0x19 0 0 0).port.pending = [cmd 0x19 0 0 0 []] ∧
    (∀ c ∈ ([0x03, 0x0B, 0x0C, 0xEF] : List (BitVec 8)),
      c.getLsbD 4 = false ∧ c ≠ 0x00 ∧ c ≠ 0x01 ∧ c ≠ 0x02) ∧
    (∀ c ∈ ([0x13, 0x16, 0x18, 0x19, 0xFF] : List (BitVec 8)),
      c.getLsbD 4 = true ∧ c ≠ 0x10 ∧ c ≠ 0x11 ∧ c ≠ 0x12 ∧ c ≠ 0x17) := by decide

/-- A frame done and its trailer read badly: `PADWARN` and `PADDONE` are set. -/
def badTrailer : Dec := { blocksDone 6 .frameDone 1 0 with padwarn := true, paddone := true }

theorem inv_bad_trailer : badTrailer.Inv := by
  constructor <;> first
    | decide
    | (intro a _; rfl)
    | exact ⟨rfl, rfl, rfl⟩
    | (show scanBlocks _ _ = _; decide)

/-- An encode engine that has taken a frame's scale: `QVALID` is set. -/
def scaleTaken : Enc := { encoder .blockStart with qvalid := true, qscale := 1 }

theorem inv_enc_faulted : ({ Enc.reset with phase := .fault, err := .programmingFault } : Enc).Inv := by
  constructor <;> first
    | decide
    | exact ⟨rfl, rfl⟩
    | exact ⟨_, rfl⟩

/-- In a block after its DC, with an escape of run 0 and level 0 at the cursor. -/
def escapeNext : Dec :=
  { engine [0, 0x04, 0, 0] 0 .readingAc 1 with
    codecount := 1
    lastWord := 0x0401
    lastValid := true
    out := [0x0401] }

theorem inv_escape_next : escapeNext.Inv := by
  constructor <;> first
    | decide
    | (intro _ _; decide)
    | (intro a h
       have h : 4 ≤ a := h
       simp [escapeNext, engine, reader, Dec.loaded, Mem.ofBytes, cellsOfBytes, Mem.read, readCells, Mem.fill]
       omega)
    | exact ⟨rfl, rfl, rfl⟩
    | (show scanBlocks _ _ = _; decide)

/-- Flags set, and an instruction that answers; an escape of level 0 that is counted; an `ERR` set in each unit. -/
theorem witness_StatusFlagsAreSticky :
    (badTrailer.Inv ∧ badTrailer.padwarn = true ∧ badTrailer.paddone = true ∧ scaleTaken.qvalid = true ∧
      ∃ t, exec .brPos (on badTrailer scaleTaken (cmd 0x05 0 0 0 [])) = .next t) ∧
    (escapeNext.Inv ∧
      ∃ t, exec (.esc 0 0) (decOn escapeNext 0x09 0 0 0) = .next t ∧ t.dec.esczero = 1 ∧ t.dec.bitpos = 22) ∧
    (({ Dec.reset with phase := .fault, err := .programmingFault } : Dec).Inv ∧
      ({ Enc.reset with phase := .fault, err := .programmingFault } : Enc).Inv ∧
      ∃ t, exec .encFinish (on { Dec.reset with phase := .fault, err := .programmingFault }
        { Enc.reset with phase := .fault, err := .programmingFault } (cmd 0x19 0 0 0 [])) = .next t) :=
  ⟨⟨inv_bad_trailer, rfl, rfl, rfl, _, rfl⟩, ⟨inv_escape_next, _, rfl, by decide, by decide⟩, inv_faulted, inv_enc_faulted, _, rfl⟩

theorem witness_StepKeepsTheInvariant :
    (decOn (blocksDone 6 .frameDone 1 0) 0x05 0 0 0).Inv ∧
    ∃ t, step (decOn (blocksDone 6 .frameDone 1 0) 0x05 0 0 0) = .next t :=
  ⟨⟨inv_frame_done, writer_inv (b := []) (by decide)⟩, _, rfl⟩

end Sys2Proof.Tests
end

section
/-! PROOFS. How an instruction and a step complete: one unit written, one command taken off the port, one response. -/

namespace Sys2Proof.Machine

/-! ## What a completed instruction leaves -/

/-- `t` is `s` with one command completed by one unit, ENC where the flag is set and DEC where it is not. Of the rest
of the state only the model's counter of free values may have moved. -/
inductive Completion (s : State) : Bool → State → Prop where
  | dec (d : Dec) (n : Nat) (r : Response) : Completion s false (State.respond { s with dec := d, free := n } r)
  | enc (e : Enc) (n : Nat) (r : Response) : Completion s true (State.respond { s with enc := e, free := n } r)

theorem Completion.port_eq {s t : State} {unit : Bool} (h : Completion s unit t) :
    ∃ r, t.port = ⟨s.port.pending.tail, some r⟩ := by
  cases h with
  | dec d n r => exact ⟨r, rfl⟩
  | enc e n r => exact ⟨r, rfl⟩

/-- A DEC command leaves ENC as it was (R9). -/
theorem Completion.enc_eq {s t : State} (h : Completion s false t) : t.enc = s.enc := by
  cases h
  rfl

/-- An ENC command leaves DEC as it was (R9). -/
theorem Completion.dec_eq {s t : State} (h : Completion s true t) : t.dec = s.dec := by
  cases h
  rfl

/-! ## The shared operations complete -/

theorem State.finishDec_completion (s : State) (res : Except ErrCode (Response × Dec)) :
    Completion s false (s.finishDec res) := by
  cases res with
  | error er => exact .dec _ s.free _
  | ok p => exact .dec p.2 s.free p.1

theorem State.finishEnc_completion (s : State) (res : Except ErrCode (Response × Enc)) :
    Completion s true (s.finishEnc res) := by
  cases res with
  | error er => exact .enc _ s.free _
  | ok p => exact .enc p.2 s.free p.1

theorem State.gatedDec_completion (s : State) : Completion s false s.gatedDec := .dec s.dec s.free _

theorem State.gatedEnc_completion (s : State) : Completion s true s.gatedEnc := .enc s.enc s.free _

theorem State.runDec_completion {s t : State} {act : Dec → Except ErrCode (Response × Dec)}
    (h : s.runDec act = .next t) : Completion s false t := by
  rcases State.runDec_cases h with ⟨_, rfl⟩ | ⟨_, er, _, rfl⟩ | ⟨_, r, d, _, rfl⟩
  · exact s.gatedDec_completion
  · exact s.finishDec_completion (.error er)
  · exact s.finishDec_completion (.ok (r, d))

theorem State.runEnc_completion {s t : State} {act : Enc → Except ErrCode (Response × Enc)}
    (h : s.runEnc act = .next t) : Completion s true t := by
  rcases State.runEnc_cases h with ⟨_, rfl⟩ | ⟨_, er, _, rfl⟩ | ⟨_, r, e, _, rfl⟩
  · exact s.gatedEnc_completion
  · exact s.finishEnc_completion (.error er)
  · exact s.finishEnc_completion (.ok (r, e))

/-- A register read in `FAULT` writes neither unit (R102). -/
theorem State.regReadInFault_cases {s t : State} {v : Option Word32} (h : s.regReadInFault v = .next t) :
    ∃ n r, t = State.respond { s with free := n } r := by
  cases v with
  | none => cases h; exact ⟨s.free + 1, _, rfl⟩
  | some w => cases h; exact ⟨s.free, _, rfl⟩

theorem execDecRegRead_completion {n : BitVec 8} {s t : State} (h : execDecRegRead n s = .next t) :
    Completion s false t := by
  unfold execDecRegRead at h
  split at h
  · obtain ⟨k, r, rfl⟩ := State.regReadInFault_cases h
    exact .dec s.dec k r
  · exact State.runDec_completion h

theorem execEncRegRead_completion {n : BitVec 8} {s t : State} (h : execEncRegRead n s = .next t) :
    Completion s true t := by
  unfold execEncRegRead at h
  split at h
  · obtain ⟨k, r, rfl⟩ := State.regReadInFault_cases h
    exact .enc s.enc k r
  · exact State.runEnc_completion h

/-- The end of `DEC_SKIP_MB` completes even where a step raised: the steps before it stand, and the raise answers
(R81, R104). Only the used-up bound gives no next state. -/
theorem State.finishSkip_completion {s t : State} {e : SkipEnd} (h : s.finishSkip e = .next t) :
    Completion s false t := by
  cases e with
  | finished d => cases h; exact .dec d s.free _
  | raised er d => cases h; exact .dec _ s.free _
  | unfinished => cases h

theorem execDecSkipMb_completion {s t : State} (h : execDecSkipMb s = .next t) : Completion s false t := by
  unfold execDecSkipMb at h
  split at h
  · cases h; exact s.gatedDec_completion
  · split at h
    · cases h; exact s.finishDec_completion (.error .programmingFault)
    · exact State.finishSkip_completion h

/-! ## The stream elements -/

/-- An element that answers a next state stands where the engine reads it, or where the engine reads none, and runs as
`DEC_STEP` does there (R77). -/
theorem State.runDec_of_stepElement {s t : State} {reads : Bool} {act : Dec → Except ErrCode (Response × Dec)}
    (h : s.stepElement reads act = .next t) : s.runDec (Dec.stepWith act act) = .next t := by
  unfold State.stepElement at h
  split at h
  · cases h
  · exact h

theorem State.acElement_completion {s t : State} {len : Nat} {k : AcKind} {w : Code}
    (h : s.acElement len k w = .next t) : Completion s false t := by
  unfold State.acElement at h
  split at h
  · exact State.runDec_completion h
  · exact State.runDec_completion (State.runDec_of_stepElement h)

theorem State.dcElement_completion {s t : State} {mode : QMode} {len : Nat} {w : Code}
    (h : s.dcElement mode len w = .next t) : Completion s false t :=
  State.runDec_completion (State.runDec_of_stepElement h)

/-- Every AC code, the 111 rows, EOB and ESC alike, is an AC element of some length, kind and word (R44-R46). -/
theorem exec_eq_acElement {i : Instr} (h : i.position = .ac) :
    ∃ len k w, ∀ s, exec i s = s.acElement len k w := by
  cases i with
  | dcGlobal | dcPerBlock | trailer => cases h
  | decReset | decRegRead | brInit | brReadU | brReadS | brPos | cbDecode | hdrParse | decStart | decStep | decSkipMb
  | decSkipPadding => cases h
  | encReset | encRegRead | bwInit | bwWrite | bwPos | bwFlush | cbLookup | encStart | encPut | encFinish => cases h
  | _ => exact ⟨_, _, _, fun _ => rfl⟩

/-! ## The unit of an instruction -/

/-- The ten commands of ENC (R55). -/
def runsInEnc : Instr → Bool
  | .encReset | .encRegRead _ | .bwInit _ | .bwWrite _ _ | .bwPos | .bwFlush | .cbLookup _ _ | .encStart _ _ | .encPut _
  | .encFinish => true
  | _ => false

/-- The unit is read off the command word alone, whatever the operands are (R54). -/
theorem isEncCommand_of_encode {i : Instr} {cmd : BitVec 8} {a b c : Word32} {data : List Byte} {unit : Bool}
    (he : encode i = .command ⟨cmd, a, b, c, data⟩) (hbit : cmd.getLsbD 4 = unit) :
    Claims.isEncCommand i = unit := by
  simp only [Claims.isEncCommand, he, hbit]

/-- Bit 4 of the command word selects ENC for exactly its ten commands (R54, R55). -/
theorem isEncCommand_eq_runsInEnc (i : Instr) : Claims.isEncCommand i = runsInEnc i := by
  cases i with
  | decReset | decRegRead | brInit | brReadU | brReadS | brPos | cbDecode | hdrParse | decStart | decStep | decSkipMb
  | decSkipPadding | encReset | encRegRead | bwInit | bwWrite | bwPos | bwFlush | cbLookup | encStart | encPut
  | encFinish => exact isEncCommand_of_encode rfl rfl
  | _ => rfl

theorem runsInEnc_of_position_ac {i : Instr} (h : i.position = .ac) : runsInEnc i = false := by
  cases i with
  | encReset | encRegRead | bwInit | bwWrite | bwPos | bwFlush | cbLookup | encStart | encPut | encFinish => cases h
  | _ => rfl

/-! ## Every instruction and every step complete -/

/-- An instruction that answers a next state has completed in its own unit: the AC codes by their shared operation, and
the other instructions one by one. -/
theorem exec_completion {i : Instr} {s t : State} (h : exec i s = .next t) :
    Completion s (Claims.isEncCommand i) t := by
  rw [isEncCommand_eq_runsInEnc]
  by_cases hac : i.position = .ac
  · obtain ⟨len, k, w, hexec⟩ := exec_eq_acElement hac
    rw [runsInEnc_of_position_ac hac]
    exact State.acElement_completion ((hexec s).symm.trans h)
  · cases i with
    | dcGlobal | dcPerBlock => exact State.dcElement_completion h
    | decReset => cases h; exact .dec Dec.reset s.free _
    | decRegRead => exact execDecRegRead_completion h
    | brInit => cases h; exact s.finishDec_completion _
    | decSkipMb => exact execDecSkipMb_completion h
    | brPos => exact State.runDec_completion (show execBrPos s = .next t from h)
    | trailer | brReadU | brReadS | cbDecode | hdrParse | decStart | decStep | decSkipPadding =>
      exact State.runDec_completion h
    | encReset => cases h; exact .enc Enc.reset s.free _
    | encRegRead => exact execEncRegRead_completion h
    | bwInit | encStart => cases h; exact s.finishEnc_completion _
    | bwPos => exact State.runEnc_completion (show execBwPos s = .next t from h)
    | cbLookup run level => exact State.runEnc_completion (show execCbLookup run level s = .next t from h)
    | bwWrite | bwFlush | encPut | encFinish => exact State.runEnc_completion h
    | _ => exact absurd rfl hac

/-- A word that R55 does not list completes as a command of the unit that its bit 4 selects (R56). -/
theorem State.illegalCommand_completion {s t : State} {cmd : BitVec 8} (h : s.illegalCommand cmd = .next t) :
    Completion s (cmd.getLsbD 4) t := by
  unfold State.illegalCommand at h
  cases hunit : cmd.getLsbD 4 with
  | true => rw [if_pos hunit] at h; exact State.runEnc_completion h
  | false => rw [if_neg (Bool.eq_false_iff.mp hunit)] at h; exact State.runDec_completion h

theorem step_eq_refused {s : State} (hp : s.port.pending = []) : step s = .refused .noCommand := by
  rw [step, hp]

theorem step_eq_exec {s : State} {c : Command} {cs : List Command} {i : Instr} (hp : s.port.pending = c :: cs)
    (hd : decodeCommand c = .ok i) : step s = exec i s := by
  simp only [step, hp, hd]

theorem step_eq_illegalCommand {s : State} {c : Command} {cs : List Command} {er : DecodeError}
    (hp : s.port.pending = c :: cs) (hd : decodeCommand c = .error er) : step s = s.illegalCommand c.cmd := by
  simp only [step, hp, hd]

theorem step_completion {s t : State} (h : step s = .next t) : ∃ unit, Completion s unit t := by
  cases hp : s.port.pending with
  | nil => rw [step_eq_refused hp] at h; cases h
  | cons c cs =>
    cases hd : decodeCommand c with
    | ok i => exact ⟨_, exec_completion (step_eq_exec hp hd ▸ h)⟩
    | error er => exact ⟨_, State.illegalCommand_completion (step_eq_illegalCommand hp hd ▸ h)⟩

/-! ## The obligations -/

/-- Settles O7: every instruction completes in one unit, and a completion moves the port on by one command. -/
theorem everyInstructionAnswersOnce : Obligations.EveryInstructionAnswersOnce := by
  intro i s t h
  obtain ⟨r, hport⟩ := (exec_completion h).port_eq
  rw [hport]
  exact ⟨rfl, r, rfl⟩

/-- Settles O6, from the equations of `step` and from what a completed step leaves on the port. -/
theorem stepRunsTheDecodedCommand : Obligations.StepRunsTheDecodedCommand := by
  refine ⟨fun s c cs i => step_eq_exec, ?_, fun s => step_eq_refused⟩
  intro s t c cs hp h
  obtain ⟨unit, hcompletion⟩ := step_completion h
  simpa only [hp, List.tail_cons] using hcompletion.port_eq

end Sys2Proof.Machine
end

section
/-! PROOFS. What an instruction can leave of the DEC unit: one inversion lemma, from which the invariant and the
stickiness of the flags follow. -/

namespace Sys2Proof.Machine

/-! ## What an action answers -/

/-- The errors that the block raises (R103): `TooMuchEnergy` is reserved (R90). -/
def ErrCode.Raised (e : ErrCode) : Prop := e ≠ .none ∧ e ≠ .tooMuchEnergy

theorem ErrCode.raised_endOfStream : ErrCode.endOfStream.Raised := ⟨nofun, nofun⟩
theorem ErrCode.raised_readCorruption : ErrCode.readCorruption.Raised := ⟨nofun, nofun⟩
theorem ErrCode.raised_incompatible : ErrCode.incompatible.Raised := ⟨nofun, nofun⟩
theorem ErrCode.raised_programmingFault : ErrCode.programmingFault.Raised := ⟨nofun, nofun⟩

/-- An action raises an error of the block, or completes with a value that meets `P`. -/
def Answers {α : Type} (P : α → Prop) : Except ErrCode α → Prop
  | .error e => e.Raised
  | .ok a => P a

theorem Answers.mono {α : Type} {P Q : α → Prop} {res : Except ErrCode α} (h : Answers P res)
    (hpq : ∀ a, P a → Q a) : Answers Q res := by
  cases res with
  | error e => exact h
  | ok a => exact hpq a h

theorem Dec.readBits_answers (d : Dec) (n : Nat) :
    Answers (fun p => d.bitpos.toNat + n ≤ d.nbits.toNat ∧ p.2 = d.advance n) (d.readBits n) := by
  rcases d.readBits_cases n with ⟨_, hr⟩ | ⟨hn, hr⟩ <;> rw [hr]
  · exact ErrCode.raised_endOfStream
  · exact ⟨hn, rfl⟩

theorem Dec.consume_answers (d : Dec) (n : Nat) :
    Answers (fun d' => d.bitpos.toNat + n ≤ d.nbits.toNat ∧ d' = d.advance n) (d.consume n) := by
  rcases d.consume_cases n with ⟨_, hr⟩ | ⟨hn, hr⟩ <;> rw [hr]
  · exact ErrCode.raised_endOfStream
  · exact ⟨hn, rfl⟩

/-! ## AC codes -/

/-- A code of `n` bits that `DecodeAC` can read: only the end-of-block code stands for `EOD_WORD` (R71), and an escape
is 22 bits long (R45). -/
structure AcCode (k : AcKind) (w : Code) (n : Nat) : Prop where
  isEod_eq : isEod w = (k == .eob)
  escape_length : k = .esc → n = 22

theorem not_isEod_iff (w : Code) : isEod w = false ↔ w ≠ Config.eodWord := by
  simp [isEod]

/-- A table pair is never `EOD_WORD`: no level of R68 item 2 is -512 modulo 1024. -/
theorem isEod_acWord {run level : Nat} (neg : Bool) (h1 : 1 ≤ level) (h2 : level ≤ 511) :
    isEod (acWord run level neg) = false := by
  rw [not_isEod_iff]
  intro h
  have hb : (bottomField (acWord run level neg)).toNat = 512 := by rw [h]; rfl
  rw [acWord, bottomField_pack] at hb
  cases neg with
  | true => simp only [if_true, BitVec.toNat_neg, BitVec.toNat_ofNat] at hb; omega
  | false => simp only [Bool.false_eq_true, if_false, BitVec.toNat_ofNat] at hb; omega

/-- What the proofs use of a codebook entry: it has a first bit, `ESC` is six bits, a level is in range. -/
def Entry.ok (e : Entry) : Bool :=
  1 ≤ e.pfx.length &&
    match e.kind with
    | .normal _ level => 1 ≤ level && level ≤ 511
    | .esc => e.pfx.length == 6
    | .eob => true

theorem codebook_entry_ok {e : Entry} (h : e ∈ Config.codebook.entries) : e.ok = true := by
  have hall : strv2Table.all Entry.ok = true := by decide +kernel
  exact List.all_eq_true.mp hall e h

theorem Entry.pfx_pos {e : Entry} (h : e.ok = true) : 1 ≤ e.pfx.length := by
  simp only [Entry.ok, Bool.and_eq_true, decide_eq_true_eq] at h
  exact h.1

theorem Entry.level_range {e : Entry} {run level : Nat} (h : e.ok = true) (hk : e.kind = .normal run level) :
    1 ≤ level ∧ level ≤ 511 := by
  simp only [Entry.ok, hk, Bool.and_eq_true, decide_eq_true_eq] at h
  exact h.2

theorem Entry.esc_length {e : Entry} (h : e.ok = true) (hk : e.kind = .esc) : e.pfx.length = 6 := by
  simp only [Entry.ok, hk, Bool.and_eq_true, beq_iff_eq] at h
  exact h.2

/-- The walk stops at an entry, having read the rest of its bits (R69). -/
theorem walkBits_answers (cb : Codebook) (fuel : Nat) (p bs : Bits) :
    Answers (fun kn => ∃ e ∈ cb.entries, e.kind = kn.1 ∧ e.pfx.length = p.length + kn.2)
      (walkBits cb fuel p bs) := by
  induction fuel generalizing p bs with
  | zero => exact ErrCode.raised_readCorruption
  | succ fuel ih =>
    cases bs with
    | nil => exact ErrCode.raised_endOfStream
    | cons b bs =>
      rw [walkBits]
      cases hf : cb.entries.find? (fun e => e.pfx == p ++ [b]) with
      | some e =>
        have hpfx : e.pfx = p ++ [b] := by simpa using List.find?_some hf
        exact ⟨e, List.mem_of_find?_eq_some hf, rfl, by simp [hpfx]⟩
      | none =>
        dsimp only
        split
        · exact ErrCode.raised_readCorruption
        · have hrec := ih (p ++ [b]) bs
          generalize walkBits cb fuel (p ++ [b]) bs = res at hrec ⊢
          cases res with
          | error e => exact hrec
          | ok kn =>
            obtain ⟨e, he, hk, hl⟩ := hrec
            refine ⟨e, he, hk, ?_⟩
            simp only [List.length_append, List.length_singleton] at hl
            omega

/-- `DecodeAC` over a list of bits reads one code, no longer than the list. -/
theorem acOfBits_answers (bs : Bits) :
    Answers (fun a => AcCode a.1 a.2.1 a.2.2 ∧ 1 ≤ a.2.2 ∧ a.2.2 ≤ bs.length) (acOfBits Config.codebook bs) := by
  have hwalk := walkBits_answers Config.codebook Config.codebook.maxLen [] bs
  unfold acOfBits
  cases hw : walkBits Config.codebook Config.codebook.maxLen [] bs with
  | error e => rw [hw] at hwalk; exact hwalk
  | ok kn =>
    obtain ⟨k, n⟩ := kn
    rw [hw] at hwalk
    obtain ⟨e, he, hk, hl⟩ := hwalk
    have hok := codebook_entry_ok he
    have hpos := Entry.pfx_pos hok
    have hle := walkBits_le hw
    simp only [List.length_nil, Nat.zero_add] at hl
    rw [hl] at hpos
    cases k with
    | eob => exact ⟨⟨rfl, nofun⟩, hpos, hle⟩
    | esc =>
      have hsix := Entry.esc_length hok hk
      dsimp only
      split
      · exact ErrCode.raised_endOfStream
      · next hroom =>
        split
        · exact ErrCode.raised_readCorruption
        · next heod =>
          rw [List.length_drop] at hroom
          have hcode : AcCode .esc (BitVec.ofNat 16 (bitsToNat ((bs.drop n).take 16))) (n + 16) :=
            ⟨Bool.eq_false_iff.mpr heod, fun _ => by omega⟩
          exact ⟨hcode, by dsimp only; omega, by dsimp only; omega⟩
    | normal run level =>
      obtain ⟨h1, h2⟩ := Entry.level_range hok hk
      dsimp only
      cases hd : bs.drop n with
      | nil => exact ErrCode.raised_endOfStream
      | cons b rest =>
        have hlen := congrArg List.length hd
        simp only [List.length_drop, List.length_cons] at hlen
        exact ⟨⟨isEod_acWord b h1 h2, nofun⟩, by dsimp only; omega, by dsimp only; omega⟩

/-- `DecodeAC` reads one code and moves the cursor past it (R71). -/
theorem decodeAC_answers (d : Dec) :
    Answers (fun a => ∃ n, AcCode a.1 a.2.1 n ∧ d.bitpos.toNat + n ≤ d.nbits.toNat ∧ a.2.2 = d.advance n)
      (decodeAC Config.codebook d) := by
  have hbits := acOfBits_answers d.remaining
  rw [decodeAC_eq]
  generalize acOfBits Config.codebook d.remaining = res at hbits ⊢
  cases res with
  | error e => exact hbits
  | ok a =>
    obtain ⟨k, w, n⟩ := a
    obtain ⟨hcode, hpos, hle⟩ := hbits
    rw [Dec.remaining_length] at hle
    exact ⟨n, hcode, by dsimp only at hpos hle; omega, rfl⟩

/-- `k`, `w` and `len` are an element's: `EOD_WORD` is left for the machine to refuse only in an escape. -/
structure AcElement (k : AcKind) (w : Code) (len : Nat) : Prop where
  isEod_eq : k ≠ .esc → isEod w = (k == .eob)
  escape_length : k = .esc → len = 22

theorem Dec.consumeAc_answers {k : AcKind} {w : Code} {len : Nat} (helem : AcElement k w len) (d : Dec) :
    Answers
      (fun a => (a.1 = k ∧ AcCode a.1 a.2.1 len) ∧ d.bitpos.toNat + len ≤ d.nbits.toNat ∧ a.2.2 = d.advance len)
      (d.consumeAc len k w) := by
  have hconsume := d.consume_answers len
  unfold Dec.consumeAc
  generalize d.consume len = res at hconsume ⊢
  cases res with
  | error e => exact hconsume
  | ok d' =>
    dsimp only
    split
    · exact ErrCode.raised_readCorruption
    · next heod =>
      refine ⟨⟨rfl, ?_, helem.escape_length⟩, hconsume⟩
      cases k with
      | esc => exact Bool.eq_false_iff.mpr heod
      | normal => exact helem.isEod_eq nofun
      | eob => exact helem.isEod_eq nofun

/-! ## One step of the decode engine -/

/-- What one completed step of the decode engine makes of DEC (R77-R80). The flag says whether an escape may have been
read. -/
inductive Dec.EngineStep (escapes : Bool) (d : Dec) : Dec → Prop where
  | dc {n : Nat} {w : Code} (hphase : d.phase = .blockStart) (hn : d.bitpos.toNat + n ≤ d.nbits.toNat)
      (heod : isEod w = false) (hscale : d.dcWordOk w = true) :
      EngineStep escapes d { (d.advance n).emit w with phase := .readingAc }
  | ac {n : Nat} {k : AcKind} {w : Code} (hphase : d.phase = .readingAc) (hn : d.bitpos.toNat + n ≤ d.nbits.toNat)
      (hcode : AcCode k w n) (hesc : k = .esc → escapes = true) :
      EngineStep escapes d ((d.advance n).takeAc k w).2
  | block (hphase : d.phase = .blockDone) : EngineStep escapes d d.advanceBlock
  | frame (hphase : d.phase = .frameDone) : EngineStep escapes d d

/-- The unit after the word of a code is taken: `ESCZERO` and the phase by the code's kind (R79). -/
theorem Dec.takeAc_snd {d : Dec} (hphase : d.phase = .readingAc) (k : AcKind) (w : Code) :
    (d.takeAc k w).2 =
      { (d.logEscZero (k == .esc) w).emit w with phase := if k = .eob then .blockDone else .readingAc } := by
  have hlog : (d.logEscZero (k == .esc) w).phase = .readingAc := by
    unfold Dec.logEscZero
    split <;> exact hphase
  cases k with
  | eob => rfl
  | normal | esc => exact congrArg (fun p => { (d.logEscZero _ w).emit w with phase := p }) hlog

theorem Dec.EngineStep.phase_ne_fault {b : Bool} {d d' : Dec} (h : Dec.EngineStep b d d') : d'.phase ≠ .fault := by
  cases h with
  | dc => exact nofun
  | @ac n k w hphase =>
    rw [Dec.takeAc_snd (d := d.advance n) hphase]
    cases k <;> exact nofun
  | block =>
    unfold Dec.advanceBlock
    split
    · dsimp only
      split <;> exact nofun
    · exact nofun
  | frame hphase => rw [hphase]; exact nofun

theorem Dec.stepWith_answers {P : Response × Dec → Prop} {b : Bool} {d : Dec}
    {dc ac : Dec → Except ErrCode (Response × Dec)} (hopen : d.phase ≠ .fault)
    (hP : ∀ r d', Dec.EngineStep b d d' → P (r, d'))
    (hdc : d.phase = .blockStart → Answers P (dc d)) (hac : d.phase = .readingAc → Answers P (ac d)) :
    Answers P (Dec.stepWith dc ac d) := by
  unfold Dec.stepWith
  split
  · exact ErrCode.raised_programmingFault
  · exact hdc ‹_›
  · exact hac ‹_›
  · exact hP _ _ (.block ‹_›)
  · exact hP _ _ (.frame ‹_›)
  · exact absurd ‹_› hopen

theorem Dec.readDc_answers (d : Dec) :
    Answers (fun p => d.dcWordOk p.1 = true ∧ ∃ n, d.bitpos.toNat + n ≤ d.nbits.toNat ∧ p.2 = d.advance n)
      d.readDc := by
  unfold Dec.readDc
  cases hmode : d.qmode with
  | global =>
    have hread := d.readBits_answers 10
    generalize d.readBits 10 = res at hread ⊢
    cases res with
    | error e => exact hread
    | ok p => exact ⟨by simp [Dec.dcWordOk], 10, hread⟩
  | perBlock =>
    have hread := d.readBits_answers 16
    generalize d.readBits 16 = res at hread ⊢
    cases res with
    | error e => exact hread
    | ok p => exact ⟨by simp [Dec.dcWordOk, hmode], 16, hread⟩

theorem Dec.takeDc_answers {b : Bool} {d : Dec} {n : Nat} {w : Code} (hphase : d.phase = .blockStart)
    (hn : d.bitpos.toNat + n ≤ d.nbits.toNat) (hscale : d.dcWordOk w = true) :
    Answers (fun p => Dec.EngineStep b d p.2) ((d.advance n).takeDc w) := by
  unfold Dec.takeDc
  split
  · exact ErrCode.raised_readCorruption
  · next heod => exact .dc hphase hn (by simpa using heod) hscale

theorem Dec.dcAction_answers {b : Bool} {d : Dec} (hphase : d.phase = .blockStart) :
    Answers (fun p => Dec.EngineStep b d p.2) d.dcAction := by
  have hread := d.readDc_answers
  unfold Dec.dcAction
  generalize d.readDc = res at hread ⊢
  cases res with
  | error e => exact hread
  | ok p =>
    obtain ⟨w, d'⟩ := p
    obtain ⟨hscale, n, hn, rfl⟩ := hread
    exact Dec.takeDc_answers hphase hn hscale

theorem Dec.acAction_answers {d : Dec} (hphase : d.phase = .readingAc) :
    Answers (fun p => Dec.EngineStep true d p.2) d.acAction := by
  have hcode := decodeAC_answers d
  unfold Dec.acAction
  generalize decodeAC Config.codebook d = res at hcode ⊢
  cases res with
  | error e => exact hcode
  | ok a =>
    obtain ⟨k, w, d'⟩ := a
    obtain ⟨n, hcode, hn, rfl⟩ := hcode
    exact .ac hphase hn hcode (fun _ => rfl)

theorem Dec.step_answers {d : Dec} (hopen : d.phase ≠ .fault) :
    Answers (fun p => Dec.EngineStep true d p.2) d.step :=
  Dec.stepWith_answers hopen (fun _ _ h => h) Dec.dcAction_answers Dec.acAction_answers

/-- Steps of the engine one after another, as `DEC_SKIP_MB` performs them (R81). -/
def Dec.EngineRun (d d' : Dec) : Prop := Relation.ReflTransGen (Dec.EngineStep true) d d'

/-- How the loop of `DEC_SKIP_MB` can end: every step before the end is a step of the engine (R81). -/
def SkipEnd.After (d : Dec) : SkipEnd → Prop
  | .finished d' => Dec.EngineRun d d'
  | .raised e d' => Dec.EngineRun d d' ∧ e.Raised
  | .unfinished => True

theorem SkipEnd.After.head {d d' : Dec} {r : SkipEnd} (hstep : Dec.EngineStep true d d') (h : r.After d') :
    r.After d := by
  cases r with
  | finished => exact Relation.ReflTransGen.head hstep h
  | raised => exact ⟨Relation.ReflTransGen.head hstep h.1, h.2⟩
  | unfinished => trivial

theorem Dec.skipLoop_after {d : Dec} (fuel : Nat) (hopen : d.phase ≠ .fault) : (Dec.skipLoop fuel d).After d := by
  induction fuel generalizing d with
  | zero =>
    unfold Dec.skipLoop
    split
    · exact Relation.ReflTransGen.refl
    · trivial
  | succ fuel ih =>
    unfold Dec.skipLoop
    split
    · exact Relation.ReflTransGen.refl
    · have hstep := Dec.step_answers hopen
      generalize d.step = res at hstep ⊢
      cases res with
      | error e => exact ⟨Relation.ReflTransGen.refl, hstep⟩
      | ok p => exact (ih hstep.phase_ne_fault).head hstep

/-! ## What an instruction leaves of DEC -/

/-- The unit with an error raised (R104). -/
def Dec.raised (d : Dec) (e : ErrCode) : Dec := { d with err := e, phase := .fault }

/-- The instructions that can count a level-0 escape (R79). -/
def readsEscapes : Instr → Bool
  | .esc _ _ | .decStep | .decSkipMb => true
  | _ => false

/-- What the action of an instruction behind DEC's fault gate makes of the unit when it completes. -/
inductive Dec.Action : Instr → Dec → Dec → Prop where
  | same (i : Instr) (d : Dec) : Action i d d
  | read (i : Instr) {d : Dec} {n : Nat} (hn : d.bitpos.toNat + n ≤ d.nbits.toNat) : Action i d (d.advance n)
  | latch {d : Dec} (hok : d.hdrOk = true) : Action .hdrParse d d.latchHeader
  | clear (d : Dec) : Action .hdrParse d d.clearHeader
  | start {d d' : Dec} {qmode : QMode} {qscale : BitVec 6} {mbtotal : BitVec 16} {r : Response}
      (h : Dec.start qmode qscale mbtotal d = .ok (r, d')) : Action (.decStart qmode qscale mbtotal) d d'
  | padding (i : Instr) {d : Dec} {n : Nat} (v : Nat) (hphase : d.phase = .frameDone) (hfirst : d.paddone = false)
      (hn : d.bitpos.toNat + n ≤ d.nbits.toNat) : Action i d ((d.advance n).setPadding v)
  | engine {i : Instr} {d d' : Dec} (h : Dec.EngineStep (readsEscapes i) d d') : Action i d d'
  | skip {d d' : Dec} (h : Dec.EngineRun d d') : Action .decSkipMb d d'

/-- Everything an instruction of DEC can leave of the unit: nothing changed, re-initialised, an error raised (in
`DEC_SKIP_MB` after the steps before it), or its action completed. -/
inductive Dec.Change : Instr → Dec → Dec → Prop where
  | kept (i : Instr) (d : Dec) : Change i d d
  | reset (d : Dec) : Change .decReset d Dec.reset
  | loaded {order : Order} {offset : Word32} {data : List Byte} (d : Dec) (hdata : data.length ≤ Config.bufMax.val)
      (hoffset : offset.toNat ≤ 16 * (data.length / 2)) :
      Change (.brInit order offset data) d (Dec.loaded order offset data)
  | notLoaded (order : Order) (offset : Word32) (data : List Byte) (d : Dec) :
      Change (.brInit order offset data) d (d.raised .programmingFault)
  | raised (i : Instr) {d : Dec} {e : ErrCode} (hopen : d.phase ≠ .fault) (he : e.Raised) : Change i d (d.raised e)
  | skipRaised {d d' : Dec} {e : ErrCode} (hopen : d.phase ≠ .fault) (h : Dec.EngineRun d d') (he : e.Raised) :
      Change .decSkipMb d (d'.raised e)
  | action {i : Instr} {d d' : Dec} (hopen : d.phase ≠ .fault) (h : Dec.Action i d d') : Change i d d'

theorem State.runDec_change {s t : State} {i : Instr} {act : Dec → Except ErrCode (Response × Dec)}
    (h : s.runDec act = .next t)
    (hact : s.dec.phase ≠ .fault → Answers (fun p => Dec.Action i s.dec p.2) (act s.dec)) :
    Dec.Change i s.dec t.dec := by
  rcases State.runDec_cases h with ⟨_, rfl⟩ | ⟨hopen, e, ha, rfl⟩ | ⟨hopen, r, d, ha, rfl⟩
  · exact .kept i s.dec
  · have he := hact hopen
    rw [ha] at he
    exact .raised i hopen he
  · have hd := hact hopen
    rw [ha] at hd
    exact .action hopen hd

theorem Dec.regRead_answers (i : Instr) (n : BitVec 8) (d : Dec) :
    Answers (fun p => Dec.Action i d p.2) (d.regRead n) := by
  unfold Dec.regRead
  split
  · exact ErrCode.raised_programmingFault
  · split
    · exact ErrCode.raised_programmingFault
    · exact .same i d

theorem Dec.rawRead_answers (i : Instr) (n : BitVec 6) (view : Nat → Word32) (d : Dec) :
    Answers (fun p => Dec.Action i d p.2) (d.rawRead n view) := by
  have hread := d.readBits_answers n.toNat
  unfold Dec.rawRead
  split
  · exact ErrCode.raised_programmingFault
  · generalize d.readBits n.toNat = res at hread ⊢
    cases res with
    | error e => exact hread
    | ok p =>
      obtain ⟨v, d'⟩ := p
      obtain ⟨hn, rfl⟩ := hread
      exact .read i hn

theorem Dec.cbDecode_answers (i : Instr) (d : Dec) :
    Answers (fun p => Dec.Action i d p.2) (d.cbDecode Config.codebook) := by
  have hcode := decodeAC_answers d
  unfold Dec.cbDecode
  generalize decodeAC Config.codebook d = res at hcode ⊢
  cases res with
  | error e => exact hcode
  | ok a =>
    obtain ⟨k, w, d'⟩ := a
    obtain ⟨n, _, hn, rfl⟩ := hcode
    exact .read i hn

theorem Dec.hdrParse_answers (d : Dec) : Answers (fun p => Dec.Action .hdrParse d p.2) d.hdrParse := by
  unfold Dec.hdrParse
  split
  · exact .latch ‹_›
  · exact .clear d

theorem Dec.start_answers (qmode : QMode) (qscale : BitVec 6) (mbtotal : BitVec 16) (d : Dec) :
    Answers (fun p => Dec.Action (.decStart qmode qscale mbtotal) d p.2) (Dec.start qmode qscale mbtotal d) := by
  cases hstart : Dec.start qmode qscale mbtotal d with
  | ok p => exact .start hstart
  | error e =>
    unfold Dec.start at hstart
    split at hstart
    · cases hstart; exact ErrCode.raised_programmingFault
    · split at hstart
      · cases hstart; exact ErrCode.raised_programmingFault
      · cases hstart

theorem Dec.skipPadding_answers (i : Instr) {n : Nat} {read : Dec → Except ErrCode (Nat × Dec)} {d : Dec}
    (hread : Answers (fun p => d.bitpos.toNat + n ≤ d.nbits.toNat ∧ p.2 = d.advance n) (read d)) :
    Answers (fun p => Dec.Action i d p.2) (d.skipPaddingWith read) := by
  unfold Dec.skipPaddingWith
  split
  · exact ErrCode.raised_programmingFault
  · next hplace =>
    rw [not_or, not_not, Bool.not_eq_true] at hplace
    generalize read d = res at hread ⊢
    cases res with
    | error e => exact hread
    | ok p =>
      obtain ⟨v, d'⟩ := p
      obtain ⟨hn, rfl⟩ := hread
      exact .padding i v hplace.1 hplace.2 hn

theorem execTrailer_change {s t : State} (i : Instr) (h : execTrailer s = .next t) : Dec.Change i s.dec t.dec := by
  refine State.runDec_change h fun _ => Dec.skipPadding_answers (n := Config.trailer.length) i ?_
  have hconsume := s.dec.consume_answers Config.trailer.length
  generalize s.dec.consume Config.trailer.length = res at hconsume ⊢
  cases res with
  | error e => exact hconsume
  | ok d' => exact hconsume

theorem brInit_change (order : Order) (offset : Word32) (data : List Byte) (s : State) :
    Dec.Change (.brInit order offset data) s.dec (s.finishDec (brInit order offset data)).dec := by
  unfold brInit
  split
  · exact .notLoaded ..
  · split
    · exact .notLoaded ..
    · exact .loaded _ (by omega) (by omega)

theorem execDecRegRead_change {n : BitVec 8} {s t : State} (i : Instr) (h : execDecRegRead n s = .next t) :
    Dec.Change i s.dec t.dec := by
  unfold execDecRegRead at h
  split at h
  · obtain ⟨k, r, rfl⟩ := State.regReadInFault_cases h
    exact .kept i s.dec
  · exact State.runDec_change h (fun _ => Dec.regRead_answers i n s.dec)

theorem execDecSkipMb_change {s t : State} (h : execDecSkipMb s = .next t) : Dec.Change .decSkipMb s.dec t.dec := by
  unfold execDecSkipMb at h
  split at h
  · cases h; exact .kept _ _
  · next hopen =>
    split at h
    · cases h; exact .raised _ hopen ErrCode.raised_programmingFault
    · have hend := Dec.skipLoop_after s.dec.skipBound hopen
      generalize Dec.skipLoop s.dec.skipBound s.dec = res at h hend
      cases res with
      | finished d => cases h; exact .action hopen (.skip hend)
      | raised e d => cases h; exact .skipRaised hopen hend.1 hend.2
      | unfinished => cases h

/-! ## The stream elements -/

/-- An element that answers stands where the phase reads it; elsewhere only the engine's own moves are left. -/
theorem State.stepElement_change {s t : State} {i : Instr} {reads : Bool}
    {act : Dec → Except ErrCode (Response × Dec)} (h : s.stepElement reads act = .next t)
    (hact : reads = true → s.dec.phase = .blockStart ∨ s.dec.phase = .readingAc →
      Answers (fun p => Dec.EngineStep (readsEscapes i) s.dec p.2) (act s.dec)) :
    Dec.Change i s.dec t.dec := by
  unfold State.stepElement at h
  split at h
  · cases h
  · next hplace =>
    have hact' (hphase : s.dec.phase = .blockStart ∨ s.dec.phase = .readingAc) :
        Answers (fun p => Dec.Action i s.dec p.2) (act s.dec) :=
      (hact (by simpa [hphase] using hplace) hphase).mono (fun _ => .engine)
    exact State.runDec_change h fun hopen => Dec.stepWith_answers (b := readsEscapes i) hopen (fun _ _ => .engine)
      (fun hphase => hact' (.inl hphase)) (fun hphase => hact' (.inr hphase))

theorem State.dcElement_change {s t : State} {i : Instr} {mode : QMode} {len : Nat} {w : Code}
    (h : s.dcElement mode len w = .next t) (hscale : s.dec.qmode = mode → s.dec.dcWordOk w = true) :
    Dec.Change i s.dec t.dec := by
  refine State.stepElement_change h fun hreads _ => ?_
  simp only [Bool.and_eq_true, beq_iff_eq] at hreads
  have hconsume := s.dec.consume_answers len
  generalize s.dec.consume len = res at hconsume ⊢
  cases res with
  | error e => exact hconsume
  | ok d' =>
    obtain ⟨hn, rfl⟩ := hconsume
    exact Dec.takeDc_answers hreads.1 hn (hscale hreads.2)

theorem State.acElement_change {s t : State} {i : Instr} {len : Nat} {k : AcKind} {w : Code}
    (h : s.acElement len k w = .next t) (helem : AcElement k w len) (hesc : k = .esc → readsEscapes i = true) :
    Dec.Change i s.dec t.dec := by
  have hconsume := s.dec.consumeAc_answers helem
  unfold State.acElement at h
  split at h
  · refine State.runDec_change h fun _ => ?_
    generalize s.dec.consumeAc len k w = res at hconsume ⊢
    cases res with
    | error e => exact hconsume
    | ok a =>
      obtain ⟨k', w', d'⟩ := a
      obtain ⟨_, hn, rfl⟩ := hconsume
      exact .read i hn
  · refine State.stepElement_change h fun hreads _ => ?_
    generalize s.dec.consumeAc len k w = res at hconsume ⊢
    cases res with
    | error e => exact hconsume
    | ok a =>
      obtain ⟨k', w', d'⟩ := a
      obtain ⟨⟨rfl, hcode⟩, hn, rfl⟩ := hconsume
      exact .ac (by simpa using hreads) hn hcode hesc

/-- Every AC instruction is an AC element; only `ESC` is an escape (R44-R46). -/
theorem exec_eq_acElement_of_ac {i : Instr} (h : i.position = .ac) :
    ∃ len k w, (∀ s, exec i s = s.acElement len k w) ∧ AcElement k w len ∧ (k = .esc → readsEscapes i = true) := by
  cases i with
  | dcGlobal | dcPerBlock | trailer => cases h
  | decReset | decRegRead | brInit | brReadU | brReadS | brPos | cbDecode | hdrParse | decStart | decStep | decSkipMb
  | decSkipPadding => cases h
  | encReset | encRegRead | bwInit | bwWrite | bwPos | bwFlush | cbLookup | encStart | encPut | encFinish => cases h
  | eob => exact ⟨2, .eob, Config.eodWord, fun _ => rfl, ⟨fun _ => rfl, nofun⟩, nofun⟩
  | esc r l => exact ⟨22, .esc, pack r l, fun _ => rfl, ⟨fun hk => absurd rfl hk, fun _ => rfl⟩, fun _ => rfl⟩
  | _ neg =>
    exact ⟨_, .normal, acWord _ _ neg, fun _ => rfl, ⟨fun _ => isEod_acWord neg (by decide) (by decide), nofun⟩, nofun⟩

theorem exec_dec_change_of_dec {i : Instr} {s t : State} (h : exec i s = .next t) (hunit : runsInEnc i = false) :
    Dec.Change i s.dec t.dec := by
  by_cases hac : i.position = .ac
  · obtain ⟨len, k, w, hexec, helem, hesc⟩ := exec_eq_acElement_of_ac hac
    exact State.acElement_change ((hexec s).symm.trans h) helem hesc
  · cases i with
    | dcGlobal dc =>
      refine State.dcElement_change (show s.dcElement .global 10 (pack s.dec.qscale dc) = .next t from h) fun _ => ?_
      simp [Dec.dcWordOk]
    | dcPerBlock q dc =>
      refine State.dcElement_change (show s.dcElement .perBlock 16 (pack q dc) = .next t from h) fun hmode => ?_
      simp [Dec.dcWordOk, hmode]
    | trailer => exact execTrailer_change _ h
    | decReset => cases h; exact .reset _
    | decRegRead n => exact execDecRegRead_change _ h
    | brInit order offset data => cases h; exact brInit_change order offset data s
    | brReadU n | brReadS n => exact State.runDec_change h fun _ => Dec.rawRead_answers ..
    | brPos => exact State.runDec_change (show execBrPos s = .next t from h) fun _ => .same _ _
    | cbDecode => exact State.runDec_change h fun _ => Dec.cbDecode_answers ..
    | hdrParse => exact State.runDec_change h fun _ => Dec.hdrParse_answers _
    | decStart => exact State.runDec_change h fun _ => Dec.start_answers ..
    | decStep => exact State.runDec_change h fun hopen => (Dec.step_answers hopen).mono fun _ hstep => .engine hstep
    | decSkipMb => exact execDecSkipMb_change h
    | decSkipPadding =>
      exact State.runDec_change h fun _ => Dec.skipPadding_answers _ (s.dec.readBits_answers Config.trailer.length)
    | encReset | encRegRead | bwInit | bwWrite | bwPos | bwFlush | cbLookup | encStart | encPut | encFinish => cases hunit
    | _ => exact absurd rfl hac

/-- Everything an instruction can leave of DEC: one of ENC leaves it as it was (R9). -/
theorem exec_dec_change {i : Instr} {s t : State} (h : exec i s = .next t) : Dec.Change i s.dec t.dec := by
  cases hunit : runsInEnc i with
  | false => exact exec_dec_change_of_dec h hunit
  | true =>
    have hdone := exec_completion h
    rw [isEncCommand_eq_runsInEnc, hunit] at hdone
    rw [hdone.dec_eq]
    exact .kept i s.dec

end Sys2Proof.Machine
end

section
/-! PROOFS. DEC keeps its invariant: the block scan of R84 word by word, then one lemma per kind of change. -/

namespace Sys2Proof.Machine

/-! ## The block scan -/

theorem scanBlocks_append (dcOk : Code → Bool) (ws : List Code) (w : Code) :
    scanBlocks dcOk (ws ++ [w]) = scanWord dcOk (scanBlocks dcOk ws) w := by
  simp [scanBlocks]

theorem scanBlocks_open {dcOk : Code → Bool} {ws : List Code} {n : Nat} {w : Code}
    (h : scanBlocks dcOk ws = some (n, false)) (heod : isEod w = false) (hdc : dcOk w = true) :
    scanBlocks dcOk (ws ++ [w]) = some (n, true) := by
  rw [scanBlocks_append, h]
  simp [scanWord, heod, hdc]

theorem scanBlocks_stay {dcOk : Code → Bool} {ws : List Code} {n : Nat} {w : Code}
    (h : scanBlocks dcOk ws = some (n, true)) (heod : isEod w = false) :
    scanBlocks dcOk (ws ++ [w]) = some (n, true) := by
  rw [scanBlocks_append, h]
  simp [scanWord, heod]

theorem scanBlocks_close {dcOk : Code → Bool} {ws : List Code} {n : Nat} {w : Code}
    (h : scanBlocks dcOk ws = some (n, true)) (heod : isEod w = true) :
    scanBlocks dcOk (ws ++ [w]) = some (n + 1, false) := by
  rw [scanBlocks_append, h]
  simp [scanWord, heod]

/-- The next block inside a macroblock (R80, R89). -/
theorem blockIndex_next_blk {mb : BitVec 16} {blk : BitVec 3} (h : blk.toNat < 5) :
    blockIndex mb (blk + 1) = blockIndex mb blk + 1 := by
  have hnext : (blk + 1).toNat = blk.toNat + 1 := by bv_omega
  simp only [blockIndex, hnext]
  omega

/-- The first block of the next macroblock (R80, R89). -/
theorem blockIndex_next_mb {mb : BitVec 16} {blk : BitVec 3} (hblk : blk = 5) (hmb : mb.toNat < 2 ^ 16 - 1) :
    blockIndex (mb + 1) 0 = blockIndex mb blk + 1 := by
  have hnext : (mb + 1).toNat = mb.toNat + 1 := by bv_omega
  have hlast : blk.toNat = 5 := by rw [hblk]; rfl
  show 6 * (mb + 1).toNat + 0 = 6 * mb.toNat + blk.toNat + 1
  rw [hnext, hlast]
  omega

theorem blk_lt_five {blk : BitVec 3} (h : blk.toNat ≤ 5) (hne : blk ≠ 5) : blk.toNat < 5 := by
  bv_omega

theorem toNat_lt_of_le_of_ne {n : Nat} {a b : BitVec n} (h : a.toNat ≤ b.toNat) (hne : a ≠ b) : a.toNat < b.toNat :=
  Nat.lt_of_le_of_ne h fun heq => hne (BitVec.eq_of_toNat_eq heq)

/-! ## Re-initialisation and errors -/

theorem Dec.reset_inv : Dec.reset.Inv where
  buf_wf := rfl
  buf_bound _ _ := rfl
  buflen_small := by decide
  cursor := Nat.le_refl _
  blk_range := Nat.zero_le _
  mb_le := Nat.le_refl _
  mb_eq _ := .inl rfl
  frame_done := nofun
  count := rfl
  qscale_range := by rintro (h | h | h | h) <;> cases h
  err_iff := ⟨fun h => absurd rfl h, nofun⟩
  err_never := nofun
  padwarn_padding := nofun
  padding_phase := nofun
  last_valid := rfl
  last_word := rfl
  latch := ⟨rfl, rfl, rfl⟩
  output := rfl

/-- The reader of R60 over a buffer within the limit of R4. -/
theorem Dec.loaded_inv {order : Order} {offset : Word32} {data : List Byte} (hdata : data.length ≤ Config.bufMax.val)
    (hoffset : offset.toNat ≤ 16 * (data.length / 2)) : (Dec.loaded order offset data).Inv := by
  have hmax := Config.bufMax.isLt
  have hlen : (Dec.loaded order offset data).buflen.toNat = data.length := by
    simp only [Dec.loaded, BitVec.toNat_ofNat]
    omega
  have hsmall : 8 * (Dec.loaded order offset data).buflen.toNat < 2 ^ 32 := by omega
  exact
    { Dec.reset_inv with
      buf_wf := Mem.ofBytes_wf data
      buf_bound := fun a ha => by
        rw [hlen] at ha
        show (Mem.ofBytes data).read a = Mem.fill
        rw [Mem.read_ofBytes, List.getElem?_eq_none ha]
        rfl
      buflen_small := hsmall
      cursor := by rw [Dec.nbits_of_small hsmall, hlen]; exact hoffset }

theorem Dec.Inv.scan_blockStart {d : Dec} (h : d.Inv) (hphase : d.phase = .blockStart) :
    scanBlocks d.dcWordOk d.out = some (blockIndex d.mb d.blk, false) := by
  simpa only [Dec.outputOk, hphase] using h.output

theorem Dec.Inv.scan_readingAc {d : Dec} (h : d.Inv) (hphase : d.phase = .readingAc) :
    scanBlocks d.dcWordOk d.out = some (blockIndex d.mb d.blk, true) := by
  simpa only [Dec.outputOk, hphase] using h.output

theorem Dec.Inv.scan_blockDone {d : Dec} (h : d.Inv) (hphase : d.phase = .blockDone) :
    scanBlocks d.dcWordOk d.out = some (blockIndex d.mb d.blk + 1, false) := by
  simpa only [Dec.outputOk, hphase] using h.output

/-- In every phase the emitted words have a block structure, whatever the phase says of it (R84). -/
theorem Dec.Inv.scan_some {d : Dec} (h : d.Inv) : ∃ r, scanBlocks d.dcWordOk d.out = some r := by
  have hout := h.output
  unfold Dec.outputOk at hout
  cases hphase : d.phase with
  | idle => rw [hphase] at hout; exact ⟨(0, false), by rw [hout]; rfl⟩
  | blockStart | readingAc | blockDone | frameDone => rw [hphase] at hout; exact ⟨_, hout⟩
  | fault => rw [hphase] at hout; exact hout

/-- A raise keeps the invariant (R103, R104). -/
theorem Dec.raised_inv {d : Dec} (h : d.Inv) {e : ErrCode} (he : e.Raised) : (d.raised e).Inv :=
  { h with
    mb_eq := fun _ => .inr (.inr rfl)
    frame_done := nofun
    qscale_range := by rintro (hp | hp | hp | hp) <;> cases hp
    err_iff := ⟨fun _ => rfl, fun _ => he.1⟩
    err_never := he.2
    padding_phase := fun _ => .inr rfl
    output := h.scan_some }

/-! ## Reads, the header and the start of a frame -/

theorem Dec.advance_inv {d : Dec} (h : d.Inv) {n : Nat} (hn : d.bitpos.toNat + n ≤ d.nbits.toNat) :
    (d.advance n).Inv :=
  { h with cursor := by rw [Dec.advance_toNat hn]; exact hn }

theorem Dec.latchHeader_inv {d : Dec} (h : d.Inv) (hok : d.hdrOk = true) : d.latchHeader.Inv := by
  simp only [Dec.hdrOk, Bool.and_eq_true, decide_eq_true_eq, beq_iff_eq] at hok
  obtain ⟨⟨⟨⟨_, hhint⟩, _⟩, hlow, hhigh⟩, hversion⟩ := hok
  exact { h with latch := ⟨hhint, hlow, hhigh, hversion⟩ }

theorem Dec.clearHeader_inv {d : Dec} (h : d.Inv) : d.clearHeader.Inv :=
  { h with latch := ⟨rfl, rfl, rfl⟩ }

/-- What `DEC_START` does when it completes (R76). -/
theorem Dec.start_ok {d d' : Dec} {qmode : QMode} {qscale : BitVec 6} {mbtotal : BitVec 16} {r : Response}
    (h : Dec.start qmode qscale mbtotal d = .ok (r, d')) :
    mbtotal ≠ 0 ∧ ¬ (qmode = .global ∧ qscale = 0) ∧
      d' = { d with
        qmode := qmode, qscale := if qmode = .global then qscale else 0, mbtotal := mbtotal, mb := 0, blk := 0,
        codecount := 0, esczero := 0, padwarn := false, paddone := false, lastWord := 0, lastValid := false, out := [],
        phase := .blockStart } := by
  unfold Dec.start at h
  split at h
  · cases h
  · split at h
    · cases h
    · cases h
      exact ⟨‹_›, ‹_›, rfl⟩

theorem Dec.start_inv {d d' : Dec} {qmode : QMode} {qscale : BitVec 6} {mbtotal : BitVec 16} {r : Response}
    (h : d.Inv) (hopen : d.phase ≠ .fault) (hstart : Dec.start qmode qscale mbtotal d = .ok (r, d')) : d'.Inv := by
  obtain ⟨hmb, hq, rfl⟩ := Dec.start_ok hstart
  exact
    { h with
      blk_range := Nat.zero_le _
      mb_le := Nat.zero_le _
      mb_eq := fun heq => absurd heq.symm hmb
      frame_done := nofun
      count := rfl
      qscale_range := fun _ hglobal => by
        have hglobal : qmode = .global := hglobal
        have hne : qscale ≠ 0 := fun h0 => hq ⟨hglobal, h0⟩
        simp only [if_pos hglobal]
        bv_omega
      err_iff := ⟨fun hne => absurd (h.err_iff.mp hne) hopen, nofun⟩
      padwarn_padding := nofun
      padding_phase := nofun
      last_valid := rfl
      last_word := rfl
      output := rfl }

theorem Dec.setPadding_inv {d : Dec} (h : d.Inv) (hphase : d.phase = .frameDone) (v : Nat) : (d.setPadding v).Inv :=
  { h with
    padwarn_padding := fun _ => rfl
    padding_phase := fun _ => .inl hphase }

/-! ## The engine's steps -/

theorem Dec.logEscZero_inv {d : Dec} (h : d.Inv) (b : Bool) (w : Code) : (d.logEscZero b w).Inv := by
  unfold Dec.logEscZero
  split
  · exact { h with }
  · exact h

/-- A frame that has not ended has a macroblock left (R13). -/
theorem Dec.Inv.mb_lt {d : Dec} (h : d.Inv)
    (hphase : d.phase = .blockStart ∨ d.phase = .readingAc ∨ d.phase = .blockDone) : d.mb.toNat < d.mbtotal.toNat := by
  refine toNat_lt_of_le_of_ne h.mb_le fun heq => ?_
  have hend := h.mb_eq heq
  rcases hphase with hp | hp | hp <;> simp [hp] at hend

/-- `Emit` inside a frame keeps the invariant where the emitted words have the structure that the next phase says
(R20, R84). -/
theorem Dec.emit_inv {d : Dec} (h : d.Inv) {w : Code} {p : DecPhase}
    (hphase : d.phase = .blockStart ∨ d.phase = .readingAc) (hp : p = .readingAc ∨ p = .blockDone)
    (hout : Dec.outputOk { d.emit w with phase := p }) : Dec.Inv { d.emit w with phase := p } := by
  have hmb := h.mb_lt (hphase.imp_right .inl)
  have hstarted : d.started := hphase.imp_right .inl
  have hopen : d.phase ≠ .fault := by rcases hphase with hq | hq <;> simp [hq]
  have hplain : p ≠ .fault ∧ p ≠ .frameDone := by rcases hp with rfl | rfl <;> exact ⟨nofun, nofun⟩
  exact
    { h with
      mb_eq := fun heq => absurd (congrArg BitVec.toNat heq) (Nat.ne_of_lt hmb)
      frame_done := fun hend => absurd hend hplain.2
      count := by
        show d.codecount + 1 = _
        rw [h.count, Dec.emit_out, List.length_append, List.length_singleton, BitVec.ofNat_add]
        rfl
      qscale_range := fun _ => h.qscale_range hstarted
      err_iff := ⟨fun hne => absurd (h.err_iff.mp hne) hopen, fun hfault => absurd hfault hplain.1⟩
      padding_phase := fun hpad => by
        have hend := h.padding_phase hpad
        rcases hphase with hq | hq <;> simp [hq] at hend
      last_valid := by simp
      last_word := by simp
      output := hout }

/-- The block after a closed one, in the frame's end or at the next block's start, keeps the invariant (R80). -/
theorem Dec.nextBlock_inv {d : Dec} (h : d.Inv) (hphase : d.phase = .blockDone) {mb : BitVec 16} {blk : BitVec 3}
    {p : DecPhase} (hblk : blk.toNat ≤ 5) (hmb : mb.toNat ≤ d.mbtotal.toNat)
    (hindex : blockIndex mb blk = blockIndex d.mb d.blk + 1)
    (hp : p = .frameDone ∧ mb = d.mbtotal ∧ blk = 0 ∨ p = .blockStart ∧ mb ≠ d.mbtotal) :
    Dec.Inv { d with blk := blk, mb := mb, phase := p } := by
  have hopen : d.phase ≠ .fault := by simp [hphase]
  have hplain : p ≠ .fault := by rcases hp with ⟨rfl, _⟩ | ⟨rfl, _⟩ <;> exact nofun
  have hout : scanBlocks d.dcWordOk d.out = some (blockIndex mb blk, false) := hindex ▸ h.scan_blockDone hphase
  exact
    { h with
      blk_range := hblk
      mb_le := hmb
      mb_eq := fun heq => .inr (.inl (hp.resolve_right fun hmore => hmore.2 heq).1)
      frame_done := fun hend => by
        rcases hp with ⟨_, hlast⟩ | ⟨rfl, _⟩
        · exact hlast
        · cases hend
      qscale_range := fun _ => h.qscale_range (.inr (.inr (.inl hphase)))
      err_iff := ⟨fun hne => absurd (h.err_iff.mp hne) hopen, fun hfault => absurd hfault hplain⟩
      padding_phase := fun hpad => by
        have hend := h.padding_phase hpad
        simp [hphase] at hend
      output := by rcases hp with ⟨rfl, _⟩ | ⟨rfl, _⟩ <;> exact hout }

theorem Dec.advanceBlock_inv {d : Dec} (h : d.Inv) (hphase : d.phase = .blockDone) : d.advanceBlock.Inv := by
  have hmb := h.mb_lt (.inr (.inr hphase))
  have hroom := d.mbtotal.isLt
  unfold Dec.advanceBlock
  split
  · next hblk =>
    have hle : (d.mb + 1).toNat ≤ d.mbtotal.toNat := by bv_omega
    refine Dec.nextBlock_inv h hphase (Nat.zero_le _) hle (blockIndex_next_mb hblk (by omega)) ?_
    split
    · exact .inl ⟨rfl, ‹_›, rfl⟩
    · exact .inr ⟨rfl, ‹_›⟩
  · next hblk =>
    have hlt := blk_lt_five h.blk_range hblk
    have hne : d.mb ≠ d.mbtotal := fun heq => absurd (congrArg BitVec.toNat heq) (Nat.ne_of_lt hmb)
    exact Dec.nextBlock_inv h hphase (by bv_omega) h.mb_le (blockIndex_next_blk hlt) (.inr ⟨rfl, hne⟩)

theorem Dec.EngineStep.inv {b : Bool} {d d' : Dec} (hstep : Dec.EngineStep b d d') (h : d.Inv) : d'.Inv := by
  cases hstep with
  | @dc n w hphase hn heod hscale =>
    exact Dec.emit_inv (Dec.advance_inv h hn) (.inl hphase) (.inl rfl)
      (scanBlocks_open (h.scan_blockStart hphase) heod hscale)
  | @ac n k w hphase hn hcode hesc =>
    have hphase' : (d.advance n).phase = .readingAc := hphase
    have hlog := Dec.logEscZero_inv (Dec.advance_inv h hn) (k == .esc) w
    rw [Dec.takeAc_snd hphase']
    generalize hd : (d.advance n).logEscZero (k == .esc) w = d1 at hlog
    have hphase1 : d1.phase = .readingAc := by
      rw [← hd, Dec.logEscZero]
      split <;> exact hphase
    have hout := hlog.scan_readingAc hphase1
    have heod := hcode.isEod_eq
    split
    · next hk =>
      exact Dec.emit_inv hlog (.inr hphase1) (.inr rfl) (scanBlocks_close hout (heod.trans (beq_iff_eq.mpr hk)))
    · next hk =>
      exact Dec.emit_inv hlog (.inr hphase1) (.inl rfl)
        (scanBlocks_stay hout (heod.trans (beq_eq_false_iff_ne.mpr hk)))
  | block hphase => exact Dec.advanceBlock_inv h hphase
  | frame => exact h

theorem Dec.EngineRun.inv {d d' : Dec} (hrun : Dec.EngineRun d d') (h : d.Inv) : d'.Inv := by
  induction hrun with
  | refl => exact h
  | tail _ hstep ih => exact hstep.inv ih

/-! ## Every change of DEC -/

theorem Dec.Action.inv {i : Instr} {d d' : Dec} (ha : Dec.Action i d d') (hopen : d.phase ≠ .fault) (h : d.Inv) :
    d'.Inv := by
  cases ha with
  | same => exact h
  | read _ hn => exact Dec.advance_inv h hn
  | latch hok => exact Dec.latchHeader_inv h hok
  | clear => exact Dec.clearHeader_inv h
  | start hstart => exact Dec.start_inv h hopen hstart
  | padding _ v hphase _ hn => exact Dec.setPadding_inv (Dec.advance_inv h hn) hphase v
  | engine hstep => exact hstep.inv h
  | skip hrun => exact hrun.inv h

theorem Dec.Change.inv {i : Instr} {d d' : Dec} (hc : Dec.Change i d d') (h : d.Inv) : d'.Inv := by
  cases hc with
  | kept => exact h
  | reset => exact Dec.reset_inv
  | loaded _ hdata hoffset => exact Dec.loaded_inv hdata hoffset
  | notLoaded => exact Dec.raised_inv h ErrCode.raised_programmingFault
  | raised _ _ he => exact Dec.raised_inv h he
  | skipRaised _ hrun he => exact Dec.raised_inv (hrun.inv h) he
  | action hopen ha => exact ha.inv hopen h

end Sys2Proof.Machine
end

section
/-! PROOFS. What an instruction can leave of the ENC unit, and that ENC keeps its invariant. -/

namespace Sys2Proof.Machine

/-! ## What an instruction leaves of ENC -/

/-- The unit with an error raised (R104). -/
def Enc.raised (e : Enc) (er : ErrCode) : Enc := { e with err := er, phase := .fault }

/-- What `ENC_PUT w` makes of ENC when it completes, by the phase (R87-R89). -/
inductive Enc.Put (w : Code) (e : Enc) : Enc → Prop where
  | dc {b : Bits} (hphase : e.phase = .blockStart) (heod : isEod w = false) (htop : topField w ≠ 0)
      (hscale : e.qvalid = true → topField w = e.qscale) (hlen : 2 ≤ b.length)
      (hfit : e.wbits.toNat + b.length ≤ 2 ^ 32 - 1) :
      Put w e { ((({ e with qscale := topField w, qvalid := true } : Enc).appended b).take w) with phase := .inBlock }
  | ac {b : Bits} (hphase : e.phase = .inBlock) (heod : isEod w = false) (hlen : 2 ≤ b.length)
      (hfit : e.wbits.toNat + b.length ≤ 2 ^ 32 - 1) : Put w e ((e.appended b).take w)
  | eob {b : Bits} (hphase : e.phase = .inBlock) (heod : isEod w = true) (hlen : 2 ≤ b.length)
      (hfit : e.wbits.toNat + b.length ≤ 2 ^ 32 - 1) : Put w e ((e.appended b).take w).advanceBlock

/-- What the action of an instruction behind ENC's fault gate makes of the unit when it completes. -/
inductive Enc.Action : Instr → Enc → Enc → Prop where
  | same (i : Instr) (e : Enc) : Action i e e
  | write {i : Instr} {e : Enc} {b : Bits} (hfit : e.wbits.toNat + b.length ≤ 2 ^ 32 - 1) :
      Action i e (e.appended b)
  | flush {e : Enc} {b : Bits} (hfit : e.wbits.toNat + b.length ≤ 2 ^ 32 - 1) :
      Action .bwFlush e ((e.appended b).storeWords 0)
  | put {w : Code} {e e' : Enc} (h : Enc.Put w e e') : Action (.encPut w) e e'
  | finish {e : Enc} {b c : Bits} {header : List Byte} (hphase : e.phase = .frameDone)
      (hfit : e.wbits.toNat + b.length ≤ 2 ^ 32 - 1)
      (hfit' : (e.appended b).wbits.toNat + c.length ≤ 2 ^ 32 - 1) :
      Action .encFinish e
        { ({ (e.appended b).appended c with
            obuf := ((e.appended b).appended c).obuf.writeBytes 0 header } : Enc).storeWords Config.headerBytes with
          phase := .finished }

/-- Everything an instruction of ENC can leave of the unit: nothing changed, re-initialised, an error raised, or its
action completed. -/
inductive Enc.Change : Instr → Enc → Enc → Prop where
  | kept (i : Instr) (e : Enc) : Change i e e
  | reset (e : Enc) : Change .encReset e Enc.reset
  | init (order : Order) (e : Enc) : Change (.bwInit order) e (Enc.initWriter order e)
  | start {mbtotal : BitVec 16} {version : Code} {r : Response} {e e' : Enc}
      (h : Enc.start mbtotal version e = .ok (r, e')) : Change (.encStart mbtotal version) e e'
  | notStarted (mbtotal : BitVec 16) (version : Code) (e : Enc) :
      Change (.encStart mbtotal version) e (e.raised .programmingFault)
  | raised (i : Instr) {e : Enc} {er : ErrCode} (hopen : e.phase ≠ .fault) (her : er.Raised) :
      Change i e (e.raised er)
  | action {i : Instr} {e e' : Enc} (hopen : e.phase ≠ .fault) (h : Enc.Action i e e') : Change i e e'

theorem State.runEnc_change {s t : State} {i : Instr} {act : Enc → Except ErrCode (Response × Enc)}
    (h : s.runEnc act = .next t)
    (hact : s.enc.phase ≠ .fault → Answers (fun p => Enc.Action i s.enc p.2) (act s.enc)) :
    Enc.Change i s.enc t.enc := by
  rcases State.runEnc_cases h with ⟨_, rfl⟩ | ⟨hopen, er, ha, rfl⟩ | ⟨hopen, r, e, ha, rfl⟩
  · exact .kept i s.enc
  · have her := hact hopen
    rw [ha] at her
    exact .raised i hopen her
  · have he := hact hopen
    rw [ha] at he
    exact .action hopen he

theorem Enc.writeBits_answers (e : Enc) (b : Bits) :
    Answers (fun e' => e.wbits.toNat + b.length ≤ 2 ^ 32 - 1 ∧ e' = e.appended b) (e.writeBits b) := by
  rcases e.writeBits_cases b with ⟨_, hw⟩ | ⟨hfit, hw⟩ <;> rw [hw]
  · exact ErrCode.raised_programmingFault
  · exact ⟨hfit, rfl⟩

theorem Enc.regRead_answers (i : Instr) (n : BitVec 8) (e : Enc) :
    Answers (fun p => Enc.Action i e p.2) (e.regRead n) := by
  unfold Enc.regRead
  split
  · exact ErrCode.raised_programmingFault
  · exact .same i e

theorem Enc.bwWrite_answers (i : Instr) (value : Word32) (n : BitVec 6) (e : Enc) :
    Answers (fun p => Enc.Action i e p.2) (e.bwWrite value n) := by
  have hwrite := e.writeBits_answers (valueBits value n)
  unfold Enc.bwWrite
  split
  · exact ErrCode.raised_programmingFault
  · generalize e.writeBits (valueBits value n) = res at hwrite ⊢
    cases res with
    | error er => exact hwrite
    | ok e' =>
      obtain ⟨hfit, rfl⟩ := hwrite
      exact .write hfit

theorem Enc.bwFlush_answers (e : Enc) : Answers (fun p => Enc.Action .bwFlush e p.2) e.bwFlush := by
  have hwrite := e.writeBits_answers (List.replicate e.padding false)
  unfold Enc.bwFlush
  generalize e.writeBits (List.replicate e.padding false) = res at hwrite ⊢
  cases res with
  | error er => exact hwrite
  | ok e' =>
    obtain ⟨hfit, rfl⟩ := hwrite
    exact .flush hfit

theorem Enc.putBits_answers (w : Code) (b : Bits) (after : Enc → Enc) (e : Enc) :
    Answers (fun p => e.wbits.toNat + b.length ≤ 2 ^ 32 - 1 ∧ p.2 = after ((e.appended b).take w))
      (Enc.putBits w b after e) := by
  have hwrite := e.writeBits_answers b
  unfold Enc.putBits
  generalize e.writeBits b = res at hwrite ⊢
  cases res with
  | error er => exact hwrite
  | ok e' =>
    obtain ⟨hfit, rfl⟩ := hwrite
    exact ⟨hfit, rfl⟩

theorem Enc.putDc_answers {w : Code} {e : Enc} (hphase : e.phase = .blockStart) :
    Answers (fun p => Enc.Put w e p.2) (e.putDc w) := by
  unfold Enc.putDc
  split
  · exact ErrCode.raised_programmingFault
  · next heod =>
    split
    · exact ErrCode.raised_incompatible
    · next htop =>
      split
      · exact ErrCode.raised_incompatible
      · next hscale =>
        refine (Enc.putBits_answers _ _ _ _).mono fun p hp => ?_
        rw [hp.2]
        exact .dc hphase (Bool.eq_false_iff.mpr heod) htop (by simpa using hscale) (by simp) hp.1

/-- A code of the table has its sign bit after at least one other (R68, R73). -/
theorem two_le_cbLookup {run : BitVec 6} {level : BitVec 10} {b : Bits}
    (h : cbLookup Config.codebook run level = some b) : 2 ≤ b.length := by
  unfold cbLookup at h
  split at h
  · cases h
  · split at h
    · next entry hf =>
      cases h
      have hpos := Entry.pfx_pos (codebook_entry_ok (List.mem_of_find?_eq_some hf))
      rw [List.length_append, List.length_singleton]
      omega
    · cases h

theorem two_le_acBits (w : Code) : 2 ≤ (acBits Config.codebook w).length := by
  unfold acBits
  split
  · exact two_le_cbLookup ‹_›
  · simp

theorem Enc.put_answers {w : Code} {e : Enc} (hopen : e.phase ≠ .fault) :
    Answers (fun p => Enc.Put w e p.2) (e.put w) := by
  unfold Enc.put
  split
  · exact ErrCode.raised_programmingFault
  · exact ErrCode.raised_programmingFault
  · exact ErrCode.raised_programmingFault
  · exact Enc.putDc_answers ‹_›
  · next hphase =>
    split
    · next heod =>
      refine (Enc.putBits_answers _ _ _ _).mono fun p hp => ?_
      rw [hp.2]
      exact .eob hphase heod (Nat.le_refl 2) hp.1
    · next heod =>
      refine (Enc.putBits_answers _ _ _ _).mono fun p hp => ?_
      rw [hp.2]
      exact .ac hphase (Bool.eq_false_iff.mpr heod) (two_le_acBits w) hp.1
  · exact absurd ‹_› hopen

theorem Enc.finish_answers (e : Enc) : Answers (fun p => Enc.Action .encFinish e p.2) e.finish := by
  have hwrite := e.writeBits_answers Config.trailer
  unfold Enc.finish
  split
  · exact ErrCode.raised_programmingFault
  · next hphase =>
    split
    · exact ErrCode.raised_incompatible
    · generalize e.writeBits Config.trailer = res at hwrite ⊢
      cases res with
      | error er => exact hwrite
      | ok e1 =>
        obtain ⟨hfit, rfl⟩ := hwrite
        have hpad := (e.appended Config.trailer).writeBits_answers
          (List.replicate (e.appended Config.trailer).padding false)
        dsimp only
        generalize (e.appended Config.trailer).writeBits
          (List.replicate (e.appended Config.trailer).padding false) = res at hpad ⊢
        cases res with
        | error er => exact hpad
        | ok e2 =>
          obtain ⟨hfit', rfl⟩ := hpad
          exact .finish (not_not.mp hphase) hfit hfit'

theorem execEncRegRead_change {n : BitVec 8} {s t : State} (i : Instr) (h : execEncRegRead n s = .next t) :
    Enc.Change i s.enc t.enc := by
  unfold execEncRegRead at h
  split at h
  · obtain ⟨k, r, rfl⟩ := State.regReadInFault_cases h
    exact .kept i s.enc
  · exact State.runEnc_change h (fun _ => Enc.regRead_answers i n s.enc)

theorem encStart_change (mbtotal : BitVec 16) (version : Code) (s : State) :
    Enc.Change (.encStart mbtotal version) s.enc (s.finishEnc (Enc.start mbtotal version s.enc)).enc := by
  cases hstart : Enc.start mbtotal version s.enc with
  | ok p => exact .start hstart
  | error er =>
    unfold Enc.start at hstart
    split at hstart
    · cases hstart; exact .notStarted ..
    · cases hstart

theorem exec_enc_change_of_enc {i : Instr} {s t : State} (h : exec i s = .next t) (hunit : runsInEnc i = true) :
    Enc.Change i s.enc t.enc := by
  cases i with
  | encReset => cases h; exact .reset _
  | encRegRead n => exact execEncRegRead_change _ h
  | bwInit order => cases h; exact .init order _
  | bwWrite value n => exact State.runEnc_change h fun _ => Enc.bwWrite_answers ..
  | bwPos => exact State.runEnc_change (show execBwPos s = .next t from h) fun _ => .same _ _
  | bwFlush => exact State.runEnc_change h fun _ => Enc.bwFlush_answers _
  | cbLookup run level => exact State.runEnc_change (show execCbLookup run level s = .next t from h) fun _ => .same _ _
  | encStart mbtotal version => cases h; exact encStart_change mbtotal version s
  | encPut w => exact State.runEnc_change h fun hopen => (Enc.put_answers hopen).mono fun _ hput => .put hput
  | encFinish => exact State.runEnc_change h fun _ => Enc.finish_answers _
  | _ => cases hunit

/-- Everything an instruction can leave of ENC: one of DEC leaves it as it was (R9). -/
theorem exec_enc_change {i : Instr} {s t : State} (h : exec i s = .next t) : Enc.Change i s.enc t.enc := by
  cases hunit : runsInEnc i with
  | true => exact exec_enc_change_of_enc h hunit
  | false =>
    have hdone := exec_completion h
    rw [isEncCommand_eq_runsInEnc, hunit] at hdone
    rw [hdone.enc_eq]
    exact .kept i s.enc

/-! ## ENC keeps its invariant -/

theorem Enc.reset_inv : Enc.reset.Inv where
  obuf_wf := rfl
  wbits_len := rfl
  blk_range := Nat.zero_le _
  mb_le := Nat.le_refl _
  mb_eq _ := .inl rfl
  frame_done := by rintro (h | h) <;> cases h
  count := rfl
  two_bits_each := Nat.le_refl _
  qscale_none _ := ⟨rfl, rfl⟩
  qscale_range := nofun
  err_iff := ⟨fun h => absurd rfl h, nofun⟩
  err_never := nofun
  input := rfl

theorem Enc.initWriter_inv {e : Enc} (h : e.Inv) (order : Order) : (Enc.initWriter order e).Inv :=
  { Enc.reset_inv with obuf_wf := h.obuf_wf }

theorem Enc.Inv.scan_blockStart {e : Enc} (h : e.Inv) (hphase : e.phase = .blockStart) :
    scanBlocks e.dcWordOk e.taken = some (blockIndex e.mb e.blk, false) := by
  simpa only [Enc.inputOk, hphase] using h.input

theorem Enc.Inv.scan_inBlock {e : Enc} (h : e.Inv) (hphase : e.phase = .inBlock) :
    scanBlocks e.dcWordOk e.taken = some (blockIndex e.mb e.blk, true) := by
  simpa only [Enc.inputOk, hphase] using h.input

theorem Enc.Inv.scan_frameDone {e : Enc} (h : e.Inv) (hphase : e.phase = .frameDone) :
    scanBlocks e.dcWordOk e.taken = some (blockIndex e.mb e.blk, false) := by
  simpa only [Enc.inputOk, hphase] using h.input

/-- In every phase the taken words have a block structure, whatever the phase says of it (R87-R89). -/
theorem Enc.Inv.scan_some {e : Enc} (h : e.Inv) : ∃ r, scanBlocks e.dcWordOk e.taken = some r := by
  have hin := h.input
  unfold Enc.inputOk at hin
  cases hphase : e.phase with
  | idle => rw [hphase] at hin; exact ⟨(0, false), by rw [hin]; rfl⟩
  | blockStart | inBlock | frameDone | finished => rw [hphase] at hin; exact ⟨_, hin⟩
  | fault => rw [hphase] at hin; exact hin

theorem Enc.raised_inv {e : Enc} (h : e.Inv) {er : ErrCode} (her : er.Raised) : (e.raised er).Inv :=
  { h with
    mb_eq := fun _ => .inr (.inr (.inr rfl))
    frame_done := by rintro (hp | hp) <;> cases hp
    err_iff := ⟨fun _ => rfl, fun _ => her.1⟩
    err_never := her.2
    input := h.scan_some }

/-- What `ENC_START` does when it completes (R85). -/
theorem Enc.start_ok {e e' : Enc} {mbtotal : BitVec 16} {version : Code} {r : Response}
    (h : Enc.start mbtotal version e = .ok (r, e')) :
    mbtotal ≠ 0 ∧
      e' = { e with
        wstream := [], wbits := 0, outlen := 0, mbtotal := mbtotal, version := version, mb := 0, blk := 0, qscale := 0,
        qvalid := false, codecount := 0, taken := [], phase := .blockStart, err := .none } := by
  unfold Enc.start at h
  split at h
  · cases h
  · cases h
    exact ⟨‹_›, rfl⟩

theorem Enc.start_inv {e e' : Enc} {mbtotal : BitVec 16} {version : Code} {r : Response} (h : e.Inv)
    (hstart : Enc.start mbtotal version e = .ok (r, e')) : e'.Inv := by
  obtain ⟨hmb, rfl⟩ := Enc.start_ok hstart
  exact
    { h with
      wbits_len := rfl
      blk_range := Nat.zero_le _
      mb_le := Nat.zero_le _
      mb_eq := fun heq => absurd heq.symm hmb
      frame_done := by rintro (hp | hp) <;> cases hp
      count := rfl
      two_bits_each := Nat.le_refl _
      qscale_none := fun _ => ⟨rfl, rfl⟩
      qscale_range := nofun
      err_iff := ⟨fun hne => absurd rfl hne, nofun⟩
      err_never := nofun
      input := rfl }

/-! ### The writer -/

theorem Enc.appended_wbits_length {e : Enc} (h : e.Inv) {b : Bits} (hfit : e.wbits.toNat + b.length ≤ 2 ^ 32 - 1) :
    (e.appended b).wbits.toNat = (e.appended b).wstream.length := by
  rw [Enc.appended_wbits hfit, h.wbits_len]
  exact List.length_append.symm

theorem Enc.appended_inv {e : Enc} (h : e.Inv) {b : Bits} (hfit : e.wbits.toNat + b.length ≤ 2 ^ 32 - 1) :
    (e.appended b).Inv :=
  { h with
    wbits_len := Enc.appended_wbits_length h hfit
    two_bits_each := by
      show _ ≤ (e.wstream ++ b).length
      rw [List.length_append]
      exact Nat.le_add_right_of_le h.two_bits_each }

theorem Enc.storeWords_inv {e : Enc} (h : e.Inv) (base : Nat) : (e.storeWords base).Inv :=
  { h with obuf_wf := Mem.writeBytes_wf h.obuf_wf _ _ }

/-! ### `ENC_PUT` -/

/-- The scale of the frame's first DC word is taken, or is the one already held (R87). -/
theorem Enc.setScale_inv {e : Enc} (h : e.Inv) {q : BitVec 6} (hphase : e.phase = .blockStart) (hq : q ≠ 0)
    (hscale : e.qvalid = true → q = e.qscale) : Enc.Inv { e with qscale := q, qvalid := true } := by
  have hin := h.scan_blockStart hphase
  have hin' : scanBlocks (fun w => topField w == q) e.taken = some (blockIndex e.mb e.blk, false) := by
    cases hv : e.qvalid with
    | true => rw [hscale hv]; exact hin
    | false => rw [(h.qscale_none hv).1] at hin ⊢; exact hin
  exact
    { h with
      qscale_none := nofun
      qscale_range := fun _ => by
        show 1 ≤ q.toNat
        bv_omega
      input := by
        simp only [Enc.inputOk, hphase]
        exact hin' }

/-- A taken word keeps the invariant where the phase, the block index and the words agree afterwards: at two bits a word
the count cannot wrap (R17, R87-R89). -/
theorem Enc.take_inv {e : Enc} (h : e.Inv) {b : Bits} {w : Code} {mb : BitVec 16} {blk : BitVec 3} {p : EncPhase}
    (hopen : e.phase ≠ .fault) (hvalid : e.qvalid = true) (hlen : 2 ≤ b.length)
    (hfit : e.wbits.toNat + b.length ≤ 2 ^ 32 - 1) (hblk : blk.toNat ≤ 5) (hmb : mb.toNat ≤ e.mbtotal.toNat)
    (hp : p = .frameDone ∧ mb = e.mbtotal ∧ blk = 0 ∧ 0 < e.mbtotal.toNat ∨
      (p = .blockStart ∨ p = .inBlock) ∧ mb ≠ e.mbtotal)
    (hscan : scanBlocks e.dcWordOk (e.taken ++ [w]) = some (blockIndex mb blk, p == .inBlock)) :
    Enc.Inv { (e.appended b).take w with blk := blk, mb := mb, phase := p } := by
  have hbits := h.two_bits_each
  have hwbits := h.wbits_len
  have hcount := h.count
  have hplain : p ≠ .fault ∧ p ≠ .finished := by
    rcases hp with ⟨rfl, _⟩ | ⟨rfl | rfl, _⟩ <;> exact ⟨nofun, nofun⟩
  exact
    { h with
      wbits_len := Enc.appended_wbits_length h hfit
      blk_range := hblk
      mb_le := hmb
      mb_eq := fun heq => .inr (.inl (hp.resolve_right fun hmore => hmore.2 heq).1)
      frame_done := by
        rcases hp with ⟨_, hlast⟩ | ⟨rfl | rfl, _⟩
        · exact fun _ => hlast
        all_goals rintro (hend | hend) <;> cases hend
      count := by
        show (e.codecount + 1).toNat = (e.taken ++ [w]).length
        rw [List.length_append, List.length_singleton, ← hcount]
        bv_omega
      two_bits_each := by
        show 2 * (e.taken ++ [w]).length ≤ (e.wstream ++ b).length
        simp only [List.length_append, List.length_singleton]
        omega
      qscale_none := fun hnone => absurd hvalid (Bool.eq_false_iff.mp hnone)
      err_iff := ⟨fun hne => absurd (h.err_iff.mp hne) hopen, fun hfault => absurd hfault hplain.1⟩
      input := by rcases hp with ⟨rfl, _⟩ | ⟨rfl | rfl, _⟩ <;> exact hscan }

/-- A frame that has not ended has a macroblock left (R17). -/
theorem Enc.Inv.mb_lt {e : Enc} (h : e.Inv) (hphase : e.phase = .blockStart ∨ e.phase = .inBlock) :
    e.mb.toNat < e.mbtotal.toNat := by
  refine toNat_lt_of_le_of_ne h.mb_le fun heq => ?_
  have hend := h.mb_eq heq
  rcases hphase with hp | hp <;> simp [hp] at hend

theorem Enc.Inv.mb_ne {e : Enc} (h : e.Inv) (hphase : e.phase = .blockStart ∨ e.phase = .inBlock) :
    e.mb ≠ e.mbtotal := fun heq => absurd (congrArg BitVec.toNat heq) (Nat.ne_of_lt (h.mb_lt hphase))

/-- Inside a block the scale has been taken: the block's DC word has (R87). -/
theorem Enc.Inv.qvalid_of_inBlock {e : Enc} (h : e.Inv) (hphase : e.phase = .inBlock) : e.qvalid = true := by
  by_contra hnone
  have hin := h.scan_inBlock hphase
  simp [(h.qscale_none (Bool.eq_false_iff.mpr hnone)).1, scanBlocks] at hin

/-- The end-of-block bookkeeping of R89 on a word just taken. -/
theorem Enc.closeBlock_inv {e : Enc} (h : e.Inv) {b : Bits} {w : Code} (hphase : e.phase = .inBlock)
    (heod : isEod w = true) (hlen : 2 ≤ b.length) (hfit : e.wbits.toNat + b.length ≤ 2 ^ 32 - 1) :
    ((e.appended b).take w).advanceBlock.Inv := by
  have hopen : e.phase ≠ .fault := by simp [hphase]
  have hmb := h.mb_lt (.inr hphase)
  have hroom := e.mbtotal.isLt
  have hscan := scanBlocks_close (h.scan_inBlock hphase) heod
  have htake := @Enc.take_inv e h b w
  have hvalid := h.qvalid_of_inBlock hphase
  unfold Enc.advanceBlock
  split
  · next hblk =>
    have hblk : e.blk = 5 := hblk
    have hle : (e.mb + 1).toNat ≤ e.mbtotal.toNat := by bv_omega
    rw [← blockIndex_next_mb hblk (by omega)] at hscan
    split
    · next hlast =>
      exact htake hopen hvalid hlen hfit (Nat.zero_le _) hle (.inl ⟨rfl, hlast, rfl, by omega⟩) hscan
    · next hmore =>
      exact htake hopen hvalid hlen hfit (Nat.zero_le _) hle (.inr ⟨.inl rfl, hmore⟩) hscan
  · next hblk =>
    have hlt := blk_lt_five h.blk_range hblk
    have hle : (e.blk + 1).toNat ≤ 5 := by bv_omega
    rw [← blockIndex_next_blk hlt] at hscan
    exact htake hopen hvalid hlen hfit hle h.mb_le (.inr ⟨.inl rfl, h.mb_ne (.inr hphase)⟩) hscan

theorem Enc.Put.inv {w : Code} {e e' : Enc} (hput : Enc.Put w e e') (h : e.Inv) : e'.Inv := by
  cases hput with
  | @dc b hphase heod htop hscale hlen hfit =>
    have hset := Enc.setScale_inv h hphase htop hscale
    exact Enc.take_inv hset (by simp [hphase]) rfl hlen hfit h.blk_range h.mb_le
      (.inr ⟨.inr rfl, h.mb_ne (.inl hphase)⟩)
      (scanBlocks_open (hset.scan_blockStart hphase) heod (by simp [Enc.dcWordOk]))
  | @ac b hphase heod hlen hfit =>
    have htake := Enc.take_inv (p := .inBlock) h (by simp [hphase]) (h.qvalid_of_inBlock hphase) hlen hfit h.blk_range
      h.mb_le (.inr ⟨.inr rfl, h.mb_ne (.inr hphase)⟩) (scanBlocks_stay (h.scan_inBlock hphase) heod)
    rw [← hphase] at htake
    exact htake
  | eob hphase heod hlen hfit => exact Enc.closeBlock_inv h hphase heod hlen hfit

/-! ### Every change of ENC -/

theorem Enc.finish_inv {e : Enc} (h : e.Inv) (hphase : e.phase = .frameDone) :
    Enc.Inv { e with phase := .finished } := by
  have hopen : e.phase ≠ .fault := by simp [hphase]
  exact
    { h with
      mb_eq := fun _ => .inr (.inr (.inl rfl))
      frame_done := fun _ => h.frame_done (.inl hphase)
      err_iff := ⟨fun hne => absurd (h.err_iff.mp hne) hopen, nofun⟩
      input := h.scan_frameDone hphase }

theorem Enc.Action.inv {i : Instr} {e e' : Enc} (ha : Enc.Action i e e') (h : e.Inv) : e'.Inv := by
  cases ha with
  | same => exact h
  | write hfit => exact Enc.appended_inv h hfit
  | flush hfit => exact Enc.storeWords_inv (Enc.appended_inv h hfit) 0
  | put hput => exact hput.inv h
  | @finish _ b c header hphase hfit hfit' =>
    have happended := Enc.appended_inv (Enc.appended_inv h hfit) hfit'
    have hheader : Enc.Inv { (e.appended b).appended c with
        obuf := ((e.appended b).appended c).obuf.writeBytes 0 header } :=
      { happended with obuf_wf := Mem.writeBytes_wf happended.obuf_wf _ _ }
    exact Enc.finish_inv (Enc.storeWords_inv hheader Config.headerBytes) hphase

theorem Enc.Change.inv {i : Instr} {e e' : Enc} (hc : Enc.Change i e e') (h : e.Inv) : e'.Inv := by
  cases hc with
  | kept => exact h
  | reset => exact Enc.reset_inv
  | init order => exact Enc.initWriter_inv h order
  | start hstart => exact Enc.start_inv h hstart
  | notStarted => exact Enc.raised_inv h ErrCode.raised_programmingFault
  | raised _ _ her => exact Enc.raised_inv h her
  | action _ ha => exact ha.inv h

end Sys2Proof.Machine
end

section
/-! PROOFS. The state as a whole: the invariant at reset and under every step, the sticky flags, and the independence
of the units. -/

namespace Sys2Proof.Machine

/-! ## The invariant -/

theorem exec_inv {i : Instr} {s t : State} (hs : s.Inv) (h : exec i s = .next t) : t.Inv :=
  ⟨(exec_dec_change h).inv hs.dec, (exec_enc_change h).inv hs.enc⟩

theorem State.runDec_error_inv {s t : State} {er : ErrCode} (hs : s.Inv) (her : er.Raised)
    (h : s.runDec (fun _ => .error er) = .next t) : t.Inv := by
  rcases State.runDec_cases h with ⟨_, rfl⟩ | ⟨_, _, he, rfl⟩ | ⟨_, _, _, hok, _⟩
  · exact ⟨hs.dec, hs.enc⟩
  · cases he; exact ⟨Dec.raised_inv hs.dec her, hs.enc⟩
  · cases hok

theorem State.runEnc_error_inv {s t : State} {er : ErrCode} (hs : s.Inv) (her : er.Raised)
    (h : s.runEnc (fun _ => .error er) = .next t) : t.Inv := by
  rcases State.runEnc_cases h with ⟨_, rfl⟩ | ⟨_, _, he, rfl⟩ | ⟨_, _, _, hok, _⟩
  · exact ⟨hs.dec, hs.enc⟩
  · cases he; exact ⟨hs.dec, Enc.raised_inv hs.enc her⟩
  · cases hok

theorem State.illegalCommand_inv {s t : State} {cmd : BitVec 8} (hs : s.Inv) (h : s.illegalCommand cmd = .next t) :
    t.Inv := by
  unfold State.illegalCommand at h
  split at h
  · exact State.runEnc_error_inv hs ErrCode.raised_programmingFault h
  · exact State.runDec_error_inv hs ErrCode.raised_programmingFault h

/-- Settles O60. -/
theorem invariantHoldsAtReset : Obligations.InvariantHoldsAtReset := ⟨Dec.reset_inv, Enc.reset_inv⟩

/-- Settles O59: a step is one instruction or an illegal command word, and each keeps the invariant by what it can leave
of each unit. -/
theorem stepKeepsTheInvariant : Obligations.StepKeepsTheInvariant := by
  intro s t hs h
  cases hp : s.port.pending with
  | nil => rw [step_eq_refused hp] at h; cases h
  | cons c cs =>
    cases hd : decodeCommand c with
    | ok i => exact exec_inv hs (step_eq_exec hp hd ▸ h)
    | error er => exact State.illegalCommand_inv hs (step_eq_illegalCommand hp hd ▸ h)

/-! ## The sticky flags -/

/-- The flags of DEC that R18 makes sticky, but for `ERR`. -/
def Dec.flags (d : Dec) : Bool × Bool × Bool := (d.padwarn, d.paddone, d.hdrValid)

theorem Dec.takeAc_flags (d : Dec) (k : AcKind) (w : Code) : (d.takeAc k w).2.flags = d.flags := by
  have hlog : (d.logEscZero (k == .esc) w).flags = d.flags := by
    unfold Dec.logEscZero
    split <;> rfl
  unfold Dec.takeAc
  dsimp only
  split <;> exact hlog

theorem Dec.takeAc_esczero (d : Dec) (k : AcKind) (w : Code) :
    (d.takeAc k w).2.esczero = if k = .esc ∧ s10 w = 0 then d.esczero + 1 else d.esczero := by
  have hlog : (d.logEscZero (k == .esc) w).esczero = if k = .esc ∧ s10 w = 0 then d.esczero + 1 else d.esczero := by
    simp only [Dec.logEscZero, Bool.and_eq_true, beq_iff_eq]
    split <;> rfl
  rw [← hlog]
  unfold Dec.takeAc
  dsimp only
  split <;> rfl

theorem Dec.takeAc_bitpos (d : Dec) (k : AcKind) (w : Code) : (d.takeAc k w).2.bitpos = d.bitpos := by
  have hlog : (d.logEscZero (k == .esc) w).bitpos = d.bitpos := by
    unfold Dec.logEscZero
    split <;> rfl
  unfold Dec.takeAc
  dsimp only
  split <;> exact hlog

theorem Dec.advanceBlock_frame (d : Dec) :
    d.advanceBlock.flags = d.flags ∧ d.advanceBlock.esczero = d.esczero ∧ d.advanceBlock.bitpos = d.bitpos := by
  unfold Dec.advanceBlock
  split <;> exact ⟨rfl, rfl, rfl⟩

/-- `ESCZERO` counts up by at most one for each 22 bits consumed (R45, R79). -/
def Dec.EscZeroCounts (d d' : Dec) : Prop :=
  ∃ n : Nat, d'.esczero = d.esczero + BitVec.ofNat 32 n ∧ d.bitpos.toNat + 22 * n ≤ d'.bitpos.toNat

theorem Dec.EscZeroCounts.of_eq {d d' : Dec} (hesc : d'.esczero = d.esczero)
    (hpos : d.bitpos.toNat ≤ d'.bitpos.toNat) : Dec.EscZeroCounts d d' :=
  ⟨0, by simpa using hesc, by simpa using hpos⟩

theorem Dec.EscZeroCounts.trans {d d' d'' : Dec} (h : Dec.EscZeroCounts d d') (h' : Dec.EscZeroCounts d' d'') :
    Dec.EscZeroCounts d d'' := by
  obtain ⟨n, hesc, hpos⟩ := h
  obtain ⟨m, hesc', hpos'⟩ := h'
  refine ⟨n + m, ?_, by omega⟩
  rw [hesc', hesc, BitVec.add_assoc, BitVec.ofNat_add]

theorem Dec.advance_bitpos_le {d : Dec} {n : Nat} (hn : d.bitpos.toNat + n ≤ d.nbits.toNat) :
    d.bitpos.toNat ≤ (d.advance n).bitpos.toNat := by
  rw [Dec.advance_toNat hn]
  exact Nat.le_add_right _ n

theorem Dec.EngineStep.flags_eq {b : Bool} {d d' : Dec} (h : Dec.EngineStep b d d') : d'.flags = d.flags := by
  cases h with
  | dc => rfl
  | ac => exact Dec.takeAc_flags ..
  | block => exact d.advanceBlock_frame.1
  | frame => rfl

/-- Where no escape is read, `ESCZERO` stays. -/
theorem Dec.EngineStep.esczero_eq {d d' : Dec} (h : Dec.EngineStep false d d') : d'.esczero = d.esczero := by
  cases h with
  | dc => rfl
  | ac hphase hn hcode hesc => exact (Dec.takeAc_esczero ..).trans (if_neg fun hk => nomatch hesc hk.1)
  | block => exact d.advanceBlock_frame.2.1
  | frame => rfl

theorem Dec.EngineStep.counts {b : Bool} {d d' : Dec} (h : Dec.EngineStep b d d') : Dec.EscZeroCounts d d' := by
  cases h with
  | dc hphase hn => exact .of_eq rfl (Dec.advance_bitpos_le hn)
  | @ac n k w hphase hn hcode =>
    have hesc := (d.advance n).takeAc_esczero k w
    have hpos := (d.advance n).takeAc_bitpos k w
    split at hesc
    · next hzero =>
      refine ⟨1, hesc, ?_⟩
      rw [hpos, Dec.advance_toNat hn, hcode.escape_length hzero.1]
    · exact .of_eq hesc (hpos ▸ Dec.advance_bitpos_le hn)
  | block =>
    obtain ⟨_, hesc, hpos⟩ := d.advanceBlock_frame
    exact .of_eq hesc (hpos ▸ Nat.le_refl _)
  | frame => exact .of_eq rfl (Nat.le_refl _)

theorem Dec.EngineRun.flags_eq {d d' : Dec} (h : Dec.EngineRun d d') : d'.flags = d.flags := by
  induction h with
  | refl => rfl
  | tail _ hstep ih => exact hstep.flags_eq.trans ih

theorem Dec.EngineRun.counts {d d' : Dec} (h : Dec.EngineRun d d') : Dec.EscZeroCounts d d' := by
  induction h with
  | refl => exact .of_eq rfl (Nat.le_refl _)
  | tail _ hstep ih => exact ih.trans hstep.counts

/-- What `i` keeps of the flags and the escape count when it makes `d'` of `d` (R18). -/
structure Dec.Sticky (i : Instr) (d d' : Dec) : Prop where
  padwarn : d.padwarn = true → d'.padwarn = true
  paddone : d.paddone = true → d'.paddone = true
  hdrValid : i ≠ .hdrParse → d'.hdrValid = d.hdrValid
  esczero : readsEscapes i = false → d'.esczero = d.esczero
  counts : Dec.EscZeroCounts d d'

theorem Dec.Sticky.of_flags {i : Instr} {d d' : Dec} (hflags : d'.flags = d.flags)
    (hesc : readsEscapes i = false → d'.esczero = d.esczero) (hcounts : Dec.EscZeroCounts d d') : Dec.Sticky i d d' := by
  simp only [Dec.flags, Prod.mk.injEq] at hflags
  obtain ⟨hwarn, hdone, hvalid⟩ := hflags
  exact ⟨hwarn.trans, hdone.trans, fun _ => hvalid, hesc, hcounts⟩

theorem Dec.Sticky.of_kept {i : Instr} {d d' : Dec} (hflags : d'.flags = d.flags) (hesc : d'.esczero = d.esczero)
    (hpos : d.bitpos.toNat ≤ d'.bitpos.toNat) : Dec.Sticky i d d' :=
  .of_flags hflags (fun _ => hesc) (.of_eq hesc hpos)

/-- The first trailer check finds no flag set to lose: `PADWARN` goes with `PADDONE`. -/
theorem Dec.Action.sticky {i : Instr} {d d' : Dec} (ha : Dec.Action i d d') (h : d.Inv)
    (hstart : ∀ qmode qscale mbtotal, i ≠ .decStart qmode qscale mbtotal) : Dec.Sticky i d d' := by
  cases ha with
  | same => exact .of_kept rfl rfl (Nat.le_refl _)
  | read _ hn => exact .of_kept rfl rfl (Dec.advance_bitpos_le hn)
  | latch | clear => exact ⟨id, id, fun hne => absurd rfl hne, fun _ => rfl, .of_eq rfl (Nat.le_refl _)⟩
  | start => exact (hstart _ _ _ rfl).elim
  | padding _ v hphase hfirst hn =>
    have hwarn : d.padwarn ≠ true := fun hwarn => by simp [h.padwarn_padding hwarn] at hfirst
    exact ⟨fun hw => absurd hw hwarn, fun _ => rfl, fun _ => rfl, fun _ => rfl,
      .of_eq rfl (Dec.advance_bitpos_le hn)⟩
  | engine hstep =>
    exact .of_flags hstep.flags_eq (fun hi => Dec.EngineStep.esczero_eq (hi ▸ hstep)) hstep.counts
  | skip hrun => exact .of_flags hrun.flags_eq nofun hrun.counts

theorem Dec.Change.sticky {i : Instr} {d d' : Dec} (hc : Dec.Change i d d') (h : d.Inv)
    (hstart : ∀ qmode qscale mbtotal, i ≠ .decStart qmode qscale mbtotal) (hreset : i ≠ .decReset)
    (hinit : ∀ order offset data, i ≠ .brInit order offset data) : Dec.Sticky i d d' := by
  cases hc with
  | kept | raised => exact .of_kept rfl rfl (Nat.le_refl _)
  | reset => exact absurd rfl hreset
  | loaded | notLoaded => exact (hinit _ _ _ rfl).elim
  | skipRaised _ hrun => exact .of_flags hrun.flags_eq nofun hrun.counts
  | action _ ha => exact ha.sticky h hstart

/-- A DEC unit in `FAULT` is left as it was by all but its reset and its init (R105). -/
theorem Dec.Change.eq_of_fault {i : Instr} {d d' : Dec} (hc : Dec.Change i d d') (hfault : d.phase = .fault)
    (hreset : i ≠ .decReset) (hinit : ∀ order offset data, i ≠ .brInit order offset data) : d' = d := by
  cases hc with
  | kept => rfl
  | reset => exact absurd rfl hreset
  | loaded | notLoaded => exact (hinit _ _ _ rfl).elim
  | raised _ hopen | skipRaised hopen | action hopen => exact absurd hfault hopen

/-- An ENC unit in `FAULT` is left as it was by all but its reset, its init and its start (R105). -/
theorem Enc.Change.eq_of_fault {i : Instr} {e e' : Enc} (hc : Enc.Change i e e') (hfault : e.phase = .fault)
    (hreset : i ≠ .encReset) (hinit : ∀ order, i ≠ .bwInit order)
    (hstart : ∀ mbtotal version, i ≠ .encStart mbtotal version) : e' = e := by
  cases hc with
  | kept => rfl
  | reset => exact absurd rfl hreset
  | init => exact (hinit _ rfl).elim
  | start | notStarted => exact (hstart _ _ rfl).elim
  | raised _ hopen | action hopen => exact absurd hfault hopen

theorem Enc.advanceBlock_qvalid (e : Enc) : e.advanceBlock.qvalid = e.qvalid := by
  unfold Enc.advanceBlock
  split <;> rfl

theorem Enc.Action.qvalid {i : Instr} {e e' : Enc} (ha : Enc.Action i e e') (hvalid : e.qvalid = true) :
    e'.qvalid = true := by
  cases ha with
  | same | write | flush | finish => exact hvalid
  | put hput =>
    cases hput with
    | dc => rfl
    | ac => exact hvalid
    | eob => exact (Enc.advanceBlock_qvalid _).trans hvalid

theorem Enc.Change.qvalid {i : Instr} {e e' : Enc} (hc : Enc.Change i e e') (hreset : i ≠ .encReset)
    (hinit : ∀ order, i ≠ .bwInit order) (hstart : ∀ mbtotal version, i ≠ .encStart mbtotal version)
    (hvalid : e.qvalid = true) : e'.qvalid = true := by
  cases hc with
  | kept | raised => exact hvalid
  | reset => exact absurd rfl hreset
  | init => exact (hinit _ rfl).elim
  | start | notStarted => exact (hstart _ _ rfl).elim
  | action _ ha => exact ha.qvalid hvalid

theorem readsEscapes_eq_false {i : Instr} (hesc : ∀ r l, i ≠ .esc r l) (hstep : i ≠ .decStep) (hskip : i ≠ .decSkipMb) :
    readsEscapes i = false := by
  cases i with
  | esc r l => exact absurd rfl (hesc r l)
  | decStep => exact absurd rfl hstep
  | decSkipMb => exact absurd rfl hskip
  | _ => rfl

/-- Settles O57, from what an instruction can leave of each unit. -/
theorem statusFlagsAreSticky : Obligations.StatusFlagsAreSticky := by
  intro i s t hinv h
  have hdec := exec_dec_change h
  have henc := exec_enc_change h
  refine ⟨fun hstart hreset hinit => ?_, fun hreset hinit herr => ?_, fun hreset hinit hstart hinv' herr => ?_,
    henc.qvalid⟩
  · obtain ⟨hwarn, hdone, hvalid, hesc, hcounts⟩ := hdec.sticky hinv hstart hreset hinit
    exact ⟨hwarn, hdone, hvalid, fun hr hstep hskip => hesc (readsEscapes_eq_false hr hstep hskip), fun _ => hcounts⟩
  · rw [hdec.eq_of_fault (hinv.err_iff.mp herr) hreset hinit]
  · rw [henc.eq_of_fault (hinv'.err_iff.mp herr) hreset hinit hstart]

/-! ## The independence of the units -/

/-- The outcome with its next state changed by `f`. -/
def onNext (f : State → State) : Host.Outcome State Fault Refusal → Host.Outcome State Fault Refusal
  | .next s => .next (f s)
  | .fault r => .fault r
  | .refused r => .refused r

section DecCommands
variable (s : State) (e : Enc)

theorem State.runDec_withEnc (act : Dec → Except ErrCode (Response × Dec)) :
    (s.withEnc e).runDec act = onNext (·.withEnc e) (s.runDec act) := by
  unfold State.runDec
  rw [State.withEnc_dec]
  split
  · rfl
  · cases act s.dec <;> rfl

theorem execDecRegRead_withEnc (n : BitVec 8) :
    execDecRegRead n (s.withEnc e) = onNext (·.withEnc e) (execDecRegRead n s) := by
  unfold execDecRegRead
  rw [State.withEnc_dec]
  split
  · cases s.dec.register n <;> rfl
  · exact State.runDec_withEnc ..

theorem execBrInit_withEnc (order : Order) (offset : Word32) (data : List Byte) :
    execBrInit order offset data (s.withEnc e) = onNext (·.withEnc e) (execBrInit order offset data s) := by
  unfold execBrInit
  cases brInit order offset data <;> rfl

theorem execDecSkipMb_withEnc : execDecSkipMb (s.withEnc e) = onNext (·.withEnc e) (execDecSkipMb s) := by
  unfold execDecSkipMb
  rw [State.withEnc_dec]
  split
  · rfl
  · split
    · rfl
    · cases Dec.skipLoop s.dec.skipBound s.dec <;> rfl

theorem State.stepElement_withEnc (reads : Bool) (act : Dec → Except ErrCode (Response × Dec)) :
    (s.withEnc e).stepElement reads act = onNext (·.withEnc e) (s.stepElement reads act) := by
  unfold State.stepElement
  rw [State.withEnc_dec]
  split
  · rfl
  · exact State.runDec_withEnc ..

theorem State.dcElement_withEnc (mode : QMode) (len : Nat) (w : Code) :
    (s.withEnc e).dcElement mode len w = onNext (·.withEnc e) (s.dcElement mode len w) :=
  State.stepElement_withEnc ..

theorem State.acElement_withEnc (len : Nat) (k : AcKind) (w : Code) :
    (s.withEnc e).acElement len k w = onNext (·.withEnc e) (s.acElement len k w) := by
  have hport : (s.withEnc e).underCbDecode = s.underCbDecode := rfl
  unfold State.acElement
  rw [hport]
  split
  · exact State.runDec_withEnc ..
  · exact State.stepElement_withEnc ..

/-- What an instruction of DEC does is the same whatever ENC is. -/
theorem exec_withEnc {i : Instr} (hunit : runsInEnc i = false) :
    exec i (s.withEnc e) = onNext (·.withEnc e) (exec i s) := by
  by_cases hac : i.position = .ac
  · obtain ⟨len, k, w, hexec⟩ := exec_eq_acElement hac
    rw [hexec, hexec]
    exact State.acElement_withEnc ..
  · cases i with
    | dcGlobal | dcPerBlock => exact State.dcElement_withEnc ..
    | decReset => rfl
    | decRegRead => exact execDecRegRead_withEnc ..
    | brInit => exact execBrInit_withEnc ..
    | decSkipMb => exact execDecSkipMb_withEnc ..
    | brPos =>
      show execBrPos (s.withEnc e) = onNext (·.withEnc e) (execBrPos s)
      exact State.runDec_withEnc ..
    | trailer | brReadU | brReadS | cbDecode | hdrParse | decStart | decStep | decSkipPadding =>
      exact State.runDec_withEnc ..
    | encReset | encRegRead | bwInit | bwWrite | bwPos | bwFlush | cbLookup | encStart | encPut | encFinish => cases hunit
    | _ => exact absurd rfl hac

end DecCommands

section EncCommands
variable (s : State) (d : Dec)

theorem State.runEnc_withDec (act : Enc → Except ErrCode (Response × Enc)) :
    (s.withDec d).runEnc act = onNext (·.withDec d) (s.runEnc act) := by
  unfold State.runEnc
  rw [State.withDec_enc]
  split
  · rfl
  · cases act s.enc <;> rfl

theorem execEncRegRead_withDec (n : BitVec 8) :
    execEncRegRead n (s.withDec d) = onNext (·.withDec d) (execEncRegRead n s) := by
  unfold execEncRegRead
  rw [State.withDec_enc]
  split
  · cases s.enc.register n <;> rfl
  · exact State.runEnc_withDec ..

theorem execEncStart_withDec (mbtotal : BitVec 16) (version : Code) :
    execEncStart mbtotal version (s.withDec d) = onNext (·.withDec d) (execEncStart mbtotal version s) := by
  unfold execEncStart
  rw [State.withDec_enc]
  cases Enc.start mbtotal version s.enc <;> rfl

/-- What an instruction of ENC does is the same whatever DEC is. -/
theorem exec_withDec {i : Instr} (hunit : runsInEnc i = true) :
    exec i (s.withDec d) = onNext (·.withDec d) (exec i s) := by
  cases i with
  | encReset | bwInit => rfl
  | encRegRead => exact execEncRegRead_withDec ..
  | encStart => exact execEncStart_withDec ..
  | bwPos =>
    show execBwPos (s.withDec d) = onNext (·.withDec d) (execBwPos s)
    exact State.runEnc_withDec ..
  | cbLookup run level =>
    show execCbLookup run level (s.withDec d) = onNext (·.withDec d) (execCbLookup run level s)
    exact State.runEnc_withDec ..
  | bwWrite | bwFlush | encPut | encFinish => exact State.runEnc_withDec ..
  | _ => cases hunit

end EncCommands

/-- Settles O58: an instruction completes in its own unit, and commutes with replacing the other. -/
theorem unitsShareNothing : Obligations.UnitsShareNothing := by
  intro i s t h
  have hdone := exec_completion h
  refine ⟨fun hunit => ?_, fun hunit => ?_⟩
  · rw [hunit] at hdone
    refine ⟨hdone.enc_eq, fun e => ?_⟩
    rw [exec_withEnc s e ((isEncCommand_eq_runsInEnc i).symm.trans hunit), h]
    rfl
  · rw [hunit] at hdone
    refine ⟨hdone.dec_eq, fun d => ?_⟩
    rw [exec_withDec s d ((isEncCommand_eq_runsInEnc i).symm.trans hunit), h]
    rfl

end Sys2Proof.Machine
end

section
/-! PROOFS. The two memories: the stream bits by the byte order, the writer's bytes read back, and who writes BUF and
OBUF. -/

namespace Sys2Proof.Machine

/-! ## Stream bits and bytes (R25, R29) -/

/-- Settles O13: bit `15 - p % 16` of a stream word lies in the byte that the order puts in its half. -/
theorem streamBitsFollowTheByteOrder : Obligations.StreamBitsFollowTheByteOrder := by
  intro d p
  have hlt : p % 16 < 16 := Nat.mod_lt p (by decide)
  refine ⟨fun ho hp => ?_, fun ho hp => ?_, fun ho hp => ?_, fun ho hp => ?_⟩ <;>
    rw [Dec.streamBit, ho, orderWord, BitVec.getLsbD_append]
  · rw [if_neg (by omega), show 15 - p % 16 - 8 = 7 - p % 16 by omega]
  · rw [if_pos (by omega)]
  · rw [if_neg (by omega), show 15 - p % 16 - 8 = 7 - p % 16 by omega]
  · rw [if_pos (by omega)]

theorem orderWord_orderBytes (o : Order) (w : Code) :
    ∃ b0 b1, orderBytes o w = [b0, b1] ∧ orderWord o b0 b1 = w := by
  have hsplit : w.extractLsb' 8 8 ++ w.extractLsb' 0 8 = w := by
    apply BitVec.eq_of_toNat_eq
    have hlt := w.isLt
    rw [BitVec.toNat_append, ← Nat.shiftLeft_add_eq_or_of_lt (BitVec.isLt _), Nat.shiftLeft_eq]
    simp only [BitVec.extractLsb'_toNat, Nat.shiftRight_eq_div_pow]
    omega
  cases o with
  | le16 => exact ⟨_, _, rfl, hsplit⟩
  | be16 => exact ⟨_, _, rfl, hsplit⟩

@[simp] theorem orderBytes_length (o : Order) (w : Code) : (orderBytes o w).length = 2 := by
  cases o <;> rfl

theorem streamBytes_succ (o : Order) (b : Bits) (n : Nat) :
    streamBytes o b (n + 1) = streamBytes o b n ++ orderBytes o (streamWord b n) := by
  simp [streamBytes, List.range_succ]

@[simp] theorem streamBytes_length (o : Order) (b : Bits) (n : Nat) : (streamBytes o b n).length = 2 * n := by
  induction n with
  | zero => rfl
  | succ n ih => rw [streamBytes_succ, List.length_append, ih, orderBytes_length]; rfl

/-- Word `j` stands in bytes `2j` and `2j + 1` (R29). -/
theorem streamBytes_drop (o : Order) (b : Bits) {n j : Nat} (hj : j < n) :
    ∃ rest, (streamBytes o b n).drop (2 * j) = orderBytes o (streamWord b j) ++ rest := by
  induction n with
  | zero => omega
  | succ n ih =>
    rw [streamBytes_succ]
    rcases Nat.lt_succ_iff_lt_or_eq.mp hj with hlt | rfl
    · obtain ⟨rest, hrest⟩ := ih hlt
      rw [List.drop_append_of_le_length (by rw [streamBytes_length]; omega), hrest, List.append_assoc]
      exact ⟨_, rfl⟩
    · exact ⟨[], by rw [List.drop_append_of_le_length (by simp), List.drop_of_length_le (by simp)]; simp⟩

theorem natToBits_getElem (n v i : Nat) (h : i < (natToBits n v).length) :
    (natToBits n v)[i] = v.testBit (n - 1 - i) := by
  induction n generalizing i with
  | zero => simp at h
  | succ n ih =>
    cases i with
    | zero => rfl
    | succ i =>
      rw [natToBits_length] at h
      rw [show n + 1 - 1 - (i + 1) = n - 1 - i by omega]
      exact ih i (by rw [natToBits_length]; omega)

/-- The first bit of a bit string is the most significant of its number (R5). -/
theorem testBit_bitsToNat (b : Bits) (i : Nat) (h : i < b.length) :
    (bitsToNat b).testBit (b.length - 1 - i) = b[i] := by
  rw [← natToBits_getElem b.length (bitsToNat b) i (by simpa using h)]
  simp only [natToBits_bitsToNat]

/-- Bit `15 - r` of word `j` is bit `16j + r` of the bit string (R29). -/
theorem streamWord_getLsbD {b : Bits} {i : Nat} (hi : i < b.length) (hword : 16 * (i / 16) + 16 ≤ b.length) :
    (streamWord b (i / 16)).getLsbD (15 - i % 16) = b[i] := by
  have hlen : ((b.drop (16 * (i / 16))).take 16).length = 16 := by
    rw [List.length_take, List.length_drop]
    omega
  have hbit := testBit_bitsToNat ((b.drop (16 * (i / 16))).take 16) (i % 16) (by omega)
  simp only [hlen] at hbit
  rw [streamWord, BitVec.getLsbD_ofNat, hbit, List.getElem_take, List.getElem_drop]
  simp only [Nat.div_add_mod, show 15 - i % 16 < 16 by omega, decide_true, Bool.true_and]

/-- The word that a reader over stored words finds at word address `j` (R25, R29). -/
theorem orderWord_of_stored {o : Order} {b : Bits} {n j : Nat} {m : Mem} (hj : j < n)
    (hm : ∀ (i : Nat) (h : i < (streamBytes o b n).length), m.read i = (streamBytes o b n)[i]) :
    orderWord o (m.read (2 * j)) (m.read (2 * j + 1)) = streamWord b j := by
  obtain ⟨b0, b1, hbytes, hword⟩ := orderWord_orderBytes o (streamWord b j)
  obtain ⟨rest, hrest⟩ := streamBytes_drop o b hj
  rw [hbytes] at hrest
  have hread (k : Nat) (hk : k < 2) : m.read (2 * j + k) = ((streamBytes o b n).drop (2 * j))[k]'(by simp; omega) := by
    rw [hm _ (by rw [streamBytes_length]; omega), List.getElem_drop]
  have h0 : m.read (2 * j) = b0 := by simpa [hrest] using hread 0 (by decide)
  have h1 : m.read (2 * j + 1) = b1 := by simpa [hrest] using hread 1 (by decide)
  rw [h0, h1, hword]

/-- Settles O42: every word is read back as it was stored, and its bits are the bit string's. -/
theorem writerAndReaderAreInverses : Obligations.WriterAndReaderAreInverses := by
  intro order b n d hlen horder hbuf
  refine List.ext_getElem (by simp) fun i hi hib => ?_
  rw [Dec.streamBits_getElem, Nat.zero_add, Dec.streamBit, horder, orderWord_of_stored (by omega) hbuf,
    streamWord_getLsbD hib (by omega)]

/-! ## Who writes BUF -/

/-- `d'` reads the same stream as `d`: its bytes, their number and their order. -/
structure Dec.SameStream (d d' : Dec) : Prop where
  buflen : d'.buflen = d.buflen
  order : d'.order = d.order
  buf : d'.buf = d.buf

theorem Dec.SameStream.refl (d : Dec) : Dec.SameStream d d := ⟨rfl, rfl, rfl⟩

theorem Dec.SameStream.trans {d d' d'' : Dec} (h : Dec.SameStream d d') (h' : Dec.SameStream d' d'') :
    Dec.SameStream d d'' :=
  ⟨h'.buflen.trans h.buflen, h'.order.trans h.order, h'.buf.trans h.buf⟩

theorem Dec.takeAc_sameStream (d : Dec) (k : AcKind) (w : Code) : Dec.SameStream d (d.takeAc k w).2 := by
  have hlog : Dec.SameStream d (d.logEscZero (k == .esc) w) := by
    unfold Dec.logEscZero
    split <;> exact ⟨rfl, rfl, rfl⟩
  refine hlog.trans ?_
  unfold Dec.takeAc
  dsimp only
  split <;> exact ⟨rfl, rfl, rfl⟩

theorem Dec.EngineStep.sameStream {b : Bool} {d d' : Dec} (h : Dec.EngineStep b d d') : Dec.SameStream d d' := by
  cases h with
  | dc => exact ⟨rfl, rfl, rfl⟩
  | @ac n k w => exact .trans (d' := d.advance n) ⟨rfl, rfl, rfl⟩ (Dec.takeAc_sameStream ..)
  | block => unfold Dec.advanceBlock; split <;> exact ⟨rfl, rfl, rfl⟩
  | frame => exact .refl d

theorem Dec.EngineRun.sameStream {d d' : Dec} (h : Dec.EngineRun d d') : Dec.SameStream d d' := by
  induction h with
  | refl => exact .refl d
  | tail _ hstep ih => exact ih.trans hstep.sameStream

theorem Dec.raised_sameStream (d : Dec) (e : ErrCode) : Dec.SameStream d (d.raised e) := ⟨rfl, rfl, rfl⟩

theorem Dec.Action.sameStream {i : Instr} {d d' : Dec} (h : Dec.Action i d d') : Dec.SameStream d d' := by
  cases h with
  | same => exact .refl d
  | read | latch | clear | padding => exact ⟨rfl, rfl, rfl⟩
  | start hstart =>
    obtain ⟨_, _, rfl⟩ := Dec.start_ok hstart
    exact ⟨rfl, rfl, rfl⟩
  | engine hstep => exact hstep.sameStream
  | skip hrun => exact hrun.sameStream

/-- Only the reset and the load of a buffer touch the stream (R22, R38). -/
theorem Dec.Change.sameStream {i : Instr} {d d' : Dec} (h : Dec.Change i d d') (hreset : i ≠ .decReset)
    (hload : ∀ order offset data, i ≠ .brInit order offset data) : Dec.SameStream d d' := by
  cases h with
  | kept => exact .refl d
  | reset => exact absurd rfl hreset
  | loaded | notLoaded => exact absurd rfl (hload _ _ _)
  | raised => exact d.raised_sameStream _
  | skipRaised _ hrun => exact hrun.sameStream.trans (Dec.raised_sameStream ..)
  | action _ haction => exact haction.sameStream

/-! ## Who writes OBUF -/

theorem Enc.advanceBlock_obuf (e : Enc) : e.advanceBlock.obuf = e.obuf := by
  unfold Enc.advanceBlock
  split <;> rfl

theorem Enc.Put.obuf_eq {w : Code} {e e' : Enc} (h : Enc.Put w e e') : e'.obuf = e.obuf := by
  cases h with
  | dc | ac => rfl
  | eob => exact Enc.advanceBlock_obuf _

theorem Enc.Action.obuf_eq {i : Instr} {e e' : Enc} (h : Enc.Action i e e') (hflush : i ≠ .bwFlush)
    (hfinish : i ≠ .encFinish) : e'.obuf = e.obuf := by
  cases h with
  | same | write => rfl
  | put hput => exact hput.obuf_eq
  | flush => exact absurd rfl hflush
  | finish => exact absurd rfl hfinish

/-- Only the reset, the flush and the finish write `OBUF` (R22, R23); `BW_INIT` and `ENC_START` keep its bytes. -/
theorem Enc.Change.obuf_eq {i : Instr} {e e' : Enc} (h : Enc.Change i e e') (hreset : i ≠ .encReset)
    (hflush : i ≠ .bwFlush) (hfinish : i ≠ .encFinish) : e'.obuf = e.obuf := by
  cases h with
  | kept | init | notStarted | raised => rfl
  | reset => exact absurd rfl hreset
  | start hstart =>
    obtain ⟨_, rfl⟩ := Enc.start_ok hstart
    rfl
  | action _ haction => exact haction.obuf_eq hflush hfinish

/-- `OUTLEN` after a store is the end of the stored words: it does not wrap (R58, R67, R91). -/
theorem Enc.storeWords_outlen {e : Enc} {base : Nat} (hbase : base ≤ Config.headerBytes) :
    (e.storeWords base).outlen.toNat = base + 2 * (e.wbits.toNat / 16) := by
  have hbits := e.wbits.isLt
  have hheader : Config.headerBytes = 8 := rfl
  exact Nat.mod_eq_of_lt (by omega)

theorem Enc.storeWords_read {e : Enc} {base a : Nat} (hbase : base ≤ Config.headerBytes)
    (ha : (e.storeWords base).outlen.toNat ≤ a) : (e.storeWords base).obuf.read a = e.obuf.read a := by
  rw [Enc.storeWords_outlen hbase] at ha
  exact Mem.read_writeBytes_out _ _ (.inr (by rw [streamBytes_length]; exact ha))

/-- Past the new `OUTLEN`, `e'` holds the bytes of `e` (assumption log 18). -/
def Enc.KeepsPastEnd (e e' : Enc) : Prop :=
  ∀ a, e'.outlen.toNat ≤ a → e'.obuf.read a = e.obuf.read a

theorem Enc.KeepsPastEnd.of_obuf_eq {e e' : Enc} (h : e'.obuf = e.obuf) : Enc.KeepsPastEnd e e' :=
  fun a _ => by rw [h]

theorem State.runEnc_keepsPastEnd {s t : State} {act : Enc → Except ErrCode (Response × Enc)}
    (h : s.runEnc act = .next t) (hact : Answers (fun p => Enc.KeepsPastEnd s.enc p.2) (act s.enc)) :
    Enc.KeepsPastEnd s.enc t.enc := by
  rcases State.runEnc_cases h with ⟨_, rfl⟩ | ⟨_, er, _, rfl⟩ | ⟨_, r, e, ha, rfl⟩
  · exact .of_obuf_eq rfl
  · exact .of_obuf_eq rfl
  · rw [ha] at hact
    exact hact

theorem Enc.Action.bwFlush_keepsPastEnd {e e' : Enc} (h : Enc.Action .bwFlush e e') : Enc.KeepsPastEnd e e' := by
  cases h with
  | same | write => exact .of_obuf_eq rfl
  | flush => exact fun a => Enc.storeWords_read (Nat.zero_le _)

/-- The unit after `ENC_FINISH` has put the header and the stored words over `e` (R91). -/
def Enc.finished (e : Enc) : Enc :=
  { ({ e with obuf := e.obuf.writeBytes 0 e.header } : Enc).storeWords Config.headerBytes with phase := .finished }

theorem Enc.finish_answers_finished (e : Enc) :
    Answers (fun p => ∃ b c : Bits, p.2 = ((e.appended b).appended c).finished) e.finish := by
  have hwrite := e.writeBits_answers Config.trailer
  unfold Enc.finish
  split
  · exact ErrCode.raised_programmingFault
  · split
    · exact ErrCode.raised_incompatible
    · generalize e.writeBits Config.trailer = res at hwrite ⊢
      cases res with
      | error er => exact hwrite
      | ok e1 =>
        have hpad := e1.writeBits_answers (List.replicate e1.padding false)
        dsimp only
        generalize e1.writeBits (List.replicate e1.padding false) = res at hpad ⊢
        cases res with
        | error er => exact hpad
        | ok e2 =>
          obtain ⟨_, rfl⟩ := hwrite
          obtain ⟨_, rfl⟩ := hpad
          exact ⟨_, _, rfl⟩

theorem Enc.header_length (e : Enc) : e.header.length = Config.headerBytes := rfl

/-- The header lies below `OUTLEN`, as the stored words do. -/
theorem Enc.finished_keepsPastEnd (e : Enc) : Enc.KeepsPastEnd e e.finished := by
  intro a ha
  have hend : e.finished.outlen.toNat = Config.headerBytes + _ := Enc.storeWords_outlen (Nat.le_refl _)
  refine (Enc.storeWords_read (Nat.le_refl _) ha).trans (Mem.read_writeBytes_out _ _ (.inr ?_))
  rw [Enc.header_length]
  omega

theorem exec_keepsPastEnd {i : Instr} {s t : State} (h : exec i s = .next t) (hi : i = .bwFlush ∨ i = .encFinish) :
    Enc.KeepsPastEnd s.enc t.enc := by
  rcases hi with rfl | rfl
  · exact State.runEnc_keepsPastEnd h ((Enc.bwFlush_answers _).mono fun _ => Enc.Action.bwFlush_keepsPastEnd)
  · refine State.runEnc_keepsPastEnd h ((Enc.finish_answers_finished _).mono fun p ⟨b, c, hp⟩ => ?_)
    rw [hp]
    exact Enc.finished_keepsPastEnd _

/-- Settles O15, from everything that an instruction can leave of each unit. -/
theorem memoriesHaveOneWriter : Obligations.MemoriesHaveOneWriter := by
  intro i s t h
  refine ⟨fun hreset hload => ?_, fun hreset hflush hfinish a => ?_, exec_keepsPastEnd h⟩
  · have hsame := (exec_dec_change h).sameStream hreset hload
    exact ⟨hsame.buflen, hsame.order, fun a => by rw [hsame.buf]⟩
  · rw [(exec_enc_change h).obuf_eq hreset hflush hfinish]

end Sys2Proof.Machine
end

section
/-! PROOFS. Where a stream element runs: in its place as the engine's action, elsewhere as the engine or not at all. -/

namespace Sys2Proof.Machine

/-! ## The engine where it reads no element -/

theorem Dec.stepWith_blockStart {d : Dec} (h : d.phase = .blockStart) (dc ac : Dec → Except ErrCode (Response × Dec)) :
    Dec.stepWith dc ac d = dc d := by
  simp only [Dec.stepWith, h]

theorem Dec.stepWith_readingAc {d : Dec} (h : d.phase = .readingAc) (dc ac : Dec → Except ErrCode (Response × Dec)) :
    Dec.stepWith dc ac d = ac d := by
  simp only [Dec.stepWith, h]

/-- The phases in which the engine reads a stream element (R77). -/
def DecPhase.reads (p : DecPhase) : Prop := p = .blockStart ∨ p = .readingAc

/-- Where no element is read, the actions of the two reading phases do not matter (R77). -/
theorem Dec.stepWith_of_not_reads {d : Dec} (h : ¬ d.phase.reads) (act : Dec → Except ErrCode (Response × Dec)) :
    Dec.stepWith act act d = d.step := by
  unfold Dec.step Dec.stepWith
  split
  · rfl
  · exact absurd (.inl ‹_›) h
  · exact absurd (.inr ‹_›) h
  all_goals rfl

theorem State.runDec_congr {s : State} {act act' : Dec → Except ErrCode (Response × Dec)}
    (h : s.dec.phase ≠ .fault → act s.dec = act' s.dec) : s.runDec act = s.runDec act' := by
  by_cases hfault : s.dec.phase = .fault
  · rw [State.runDec_fault hfault, State.runDec_fault hfault]
  · rw [State.runDec_open hfault, State.runDec_open hfault, h hfault]

/-! ## Misplaced elements (assumption log 10) -/

theorem State.stepElement_of_not_reads {s : State} (h : ¬ s.dec.phase.reads) (reads : Bool)
    (act : Dec → Except ErrCode (Response × Dec)) : s.stepElement reads act = exec .decStep s := by
  rw [State.stepElement, if_neg fun hplace => h hplace.1]
  exact State.runDec_congr fun _ => Dec.stepWith_of_not_reads h act

theorem State.stepElement_misplaced {s : State} (h : s.dec.phase.reads) {reads : Bool} (hreads : reads = false)
    (act : Dec → Except ErrCode (Response × Dec)) : s.stepElement reads act = .refused .notInPosition := by
  rw [State.stepElement, if_pos ⟨h, hreads⟩]

/-- An element in its place runs as the engine's action there (R77). -/
theorem State.stepElement_placed {s : State} (h : s.dec.phase.reads) {reads : Bool} (hreads : reads = true)
    (act : Dec → Except ErrCode (Response × Dec)) : s.stepElement reads act = s.runDec act := by
  rw [State.stepElement, if_neg (by simp [hreads])]
  refine State.runDec_congr fun _ => ?_
  rcases h with h | h
  · exact Dec.stepWith_blockStart h ..
  · exact Dec.stepWith_readingAc h ..

theorem exec_decStep_fault {s : State} (h : s.dec.phase = .fault) : exec .decStep s = .next s.gatedDec :=
  State.runDec_fault h _

theorem State.stepElement_fault {s : State} (h : s.dec.phase = .fault) (reads : Bool)
    (act : Dec → Except ErrCode (Response × Dec)) : s.stepElement reads act = .next s.gatedDec := by
  rw [State.stepElement_of_not_reads (by simp [DecPhase.reads, h]), exec_decStep_fault h]

/-- What `READING_AC` does with an AC element of `len` bits (R79). -/
def Dec.acElementAction (len : Nat) (k : AcKind) (w : Code) (d : Dec) : Except ErrCode (Response × Dec) :=
  match d.consumeAc len k w with
  | .error e => .error e
  | .ok (k, w, d') => .ok (d'.takeAc k w)

/-- An AC element under another command than `CB_DECODE`, or under none. -/
theorem State.acElement_eq_stepElement {s : State} (h : s.underCbDecode = false) (len : Nat) (k : AcKind) (w : Code) :
    s.acElement len k w = s.stepElement (s.dec.phase == .readingAc) (Dec.acElementAction len k w) := by
  rw [State.acElement, h]
  rfl

theorem State.acElement_fault {s : State} (h : s.dec.phase = .fault) (len : Nat) (k : AcKind) (w : Code) :
    s.acElement len k w = .next s.gatedDec := by
  cases hport : s.underCbDecode with
  | true => rw [State.acElement, if_pos hport]; exact State.runDec_fault h _
  | false => rw [State.acElement_eq_stepElement hport, State.stepElement_fault h]

/-- Every stream element is behind the fault gate (R105). -/
theorem exec_element_fault {i : Instr} {s : State} (hi : i.position ≠ .command) (h : s.dec.phase = .fault) :
    exec i s = .next s.gatedDec := by
  by_cases hac : i.position = .ac
  · obtain ⟨len, k, w, hexec⟩ := exec_eq_acElement hac
    rw [hexec, State.acElement_fault h]
  · cases i with
    | dcGlobal | dcPerBlock => exact State.stepElement_fault h ..
    | trailer => exact State.runDec_fault h _
    | decReset | decRegRead | brInit | brReadU | brReadS | brPos | cbDecode | hdrParse | decStart | decStep | decSkipMb
    | decSkipPadding | encReset | encRegRead | bwInit | bwWrite | bwPos | bwFlush | cbLookup | encStart | encPut
    | encFinish => exact absurd rfl hi
    | _ => exact absurd rfl hac

/-- An AC code or DC field where the engine reads no element does what `DEC_STEP` does there. -/
theorem exec_element_of_not_reads {i : Instr} {s : State}
    (hi : i.position = .ac ∨ i.position = .dcGlobal ∨ i.position = .dcPerBlock) (hport : s.underCbDecode = false)
    (h : ¬ s.dec.phase.reads) : exec i s = exec .decStep s := by
  by_cases hac : i.position = .ac
  · obtain ⟨len, k, w, hexec⟩ := exec_eq_acElement hac
    rw [hexec, State.acElement_eq_stepElement hport, State.stepElement_of_not_reads h]
  · cases i with
    | dcGlobal | dcPerBlock => exact State.stepElement_of_not_reads h ..
    | trailer | decReset | decRegRead | brInit | brReadU | brReadS | brPos | cbDecode | hdrParse | decStart | decStep
    | decSkipMb | decSkipPadding | encReset | encRegRead | bwInit | bwWrite | bwPos | bwFlush | cbLookup | encStart
    | encPut | encFinish => rcases hi with h | h | h <;> cases h
    | _ => exact absurd rfl hac

theorem exec_ac_at_blockStart {i : Instr} {s : State} (hi : i.position = .ac) (hport : s.underCbDecode = false)
    (h : s.dec.phase = .blockStart) : exec i s = .refused .notInPosition := by
  obtain ⟨len, k, w, hexec⟩ := exec_eq_acElement hi
  rw [hexec, State.acElement_eq_stepElement hport, State.stepElement_misplaced (.inl h) (by rw [h]; rfl)]

theorem State.dcElement_in_readingAc {s : State} (h : s.dec.phase = .readingAc) (mode : QMode) (len : Nat) (w : Code) :
    s.dcElement mode len w = .refused .notInPosition :=
  State.stepElement_misplaced (.inr h) (by rw [h]; rfl) _

theorem State.dcElement_other_mode {s : State} (h : s.dec.phase = .blockStart) {mode : QMode}
    (hmode : s.dec.qmode ≠ mode) (len : Nat) (w : Code) : s.dcElement mode len w = .refused .notInPosition :=
  State.stepElement_misplaced (.inl h) (by simp [hmode]) _

/-- Settles O28. -/
theorem misplacedElementsDoNotRun : Obligations.MisplacedElementsDoNotRun := by
  intro s
  refine ⟨fun i => exec_element_fault, fun i hi hport h => ?_, fun i => exec_ac_at_blockStart, fun q d => ⟨?_, ?_, ?_⟩⟩
  · exact exec_element_of_not_reads hi hport (by rcases h with h | h | h <;> simp [DecPhase.reads, h])
  · exact fun h => ⟨State.dcElement_in_readingAc h .., State.dcElement_in_readingAc h ..⟩
  · exact fun h hmode => State.dcElement_other_mode h (by simp [hmode]) ..
  · exact fun h hmode => State.dcElement_other_mode h (by simp [hmode]) ..

end Sys2Proof.Machine
end

section
/-! PROOFS. `DEC_STEP` and the decoder at the cursor: the codebook's bit-serial walk and the opcode table's matching
read the same elements. -/

namespace Sys2Proof.Machine

/-! ## The codebook's walk and the decoder's tables (R48, R69) -/

theorem not_prefix_of_diverges {a b : Bits} (h : diverges a b = true) : ¬ a <+: b ∧ ¬ b <+: a := by
  induction a generalizing b with
  | nil => cases h
  | cons x a ih =>
    cases b with
    | nil => cases x <;> cases h
    | cons y b =>
      by_cases hxy : x = y
      · subst hxy
        rw [diverges_cons] at h
        simpa [List.cons_prefix_cons] using ih h
      · simp [List.cons_prefix_cons, hxy, Ne.symm hxy]

theorem pairwise_diverges_of_prefixFree {cs : List Bits} (h : prefixFree cs = true) :
    cs.Pairwise (fun a b => diverges a b = true) := by
  induction cs with
  | nil => exact .nil
  | cons c cs ih =>
    simp only [prefixFree, Bool.and_eq_true, List.all_eq_true] at h
    exact .cons h.1 (ih h.2)

/-- No entry's bits begin another entry's (R49). -/
theorem codebook_prefix_free {e e' : Entry} (he : e ∈ Config.codebook.entries) (he' : e' ∈ Config.codebook.entries)
    (h : e.pfx <+: e'.pfx) : e = e' := by
  have hsplit : splitFree 17 (strv2Table.map Entry.pfx) = true := by decide +kernel
  have hpairs : strv2Table.Pairwise (fun e e' => ¬ e.pfx <+: e'.pfx ∧ ¬ e'.pfx <+: e.pfx) :=
    (List.pairwise_map.mp (pairwise_diverges_of_prefixFree (prefixFree_of_splitFree hsplit))).imp not_prefix_of_diverges
  have hsymm : Std.Symm (fun e e' : Entry => ¬ e.pfx <+: e'.pfx ∧ ¬ e'.pfx <+: e.pfx) := ⟨fun _ _ => And.symm⟩
  by_contra hne
  exact (hpairs.forall he he' hne).1 h

theorem codebook_pfx_le {e : Entry} (he : e ∈ Config.codebook.entries) : e.pfx.length ≤ Config.codebook.maxLen := by
  have hall : ∀ e ∈ strv2Table, e.pfx.length ≤ 16 := by decide +kernel
  exact hall e he

/-- The entry that a row of the opcode table stands for. -/
def rowEntry (r : VlcRow) : Entry := ⟨r.pfx, .normal r.run r.level⟩

/-- The codebook is the two sentinels and the rows of the opcode table (R48). -/
theorem codebook_entries :
    Config.codebook.entries = ⟨Config.eobCode, .eob⟩ :: ⟨Config.escPrefix, .esc⟩ :: vlcRows.map rowEntry := rfl

/-- The row's instruction is the table code of the row's bits, run and level, in either sign (R44). -/
def RowRuns (r : VlcRow) : Prop :=
  ∀ neg s, exec (r.build neg) s = s.acElement (r.pfx.length + 1) .normal (acWord r.run r.level neg)

theorem rowRuns_of_mem {r : VlcRow} (hr : r ∈ vlcRows) : RowRuns r := by
  have hall : vlcRows.Forall RowRuns := by
    simp only [vlcRows, vlcRows1, vlcRows2, vlcRows3, vlcRows4, vlcRows5, vlcRows6, List.cons_append, List.nil_append,
      List.Forall]
    and_intros <;> exact fun _ _ => rfl
  exact List.forall_iff_forall_mem.mp hall r hr

/-! ## What the walk answers (R69) -/

/-- Some entry of the codebook begins with the bits `b`. -/
def Codebook.couldBegin (cb : Codebook) (b : Bits) : Bool := cb.entries.any (fun e => b.isPrefixOf e.pfx)

theorem Codebook.couldBegin_iff (cb : Codebook) (b : Bits) :
    cb.couldBegin b = true ↔ ∃ e ∈ cb.entries, b <+: e.pfx := by
  simp [Codebook.couldBegin]

section WalkStep
variable {cb : Codebook} {p : Bits} {b : Bool} (fuel : Nat) (bs : Bits)

theorem walkBits_hit {e : Entry} (h : cb.entries.find? (fun e => e.pfx == p ++ [b]) = some e) :
    walkBits cb (fuel + 1) p (b :: bs) = .ok (e.kind, 1) := by
  simp only [walkBits, h]

theorem walkBits_dead_end (h : ∀ e ∈ cb.entries, e.pfx ≠ p ++ [b]) (hdead : cb.couldBegin (p ++ [b]) = false) :
    walkBits cb (fuel + 1) p (b :: bs) = .error .readCorruption := by
  have hfind : cb.entries.find? (fun e => e.pfx == p ++ [b]) = none := List.find?_eq_none.mpr (by simpa using h)
  rw [Codebook.couldBegin] at hdead
  simp [walkBits, hfind, hdead]

/-- While some entry is still open, the walk goes on: within `MAX_PREFIX_LEN`, since no entry is longer. -/
theorem walkBits_go_on (hmax : ∀ e ∈ cb.entries, e.pfx.length ≤ cb.maxLen)
    (h : ∀ e ∈ cb.entries, e.pfx ≠ p ++ [b]) (hopen : cb.couldBegin (p ++ [b]) = true) :
    walkBits cb (fuel + 1) p (b :: bs) = (walkBits cb fuel (p ++ [b]) bs).map (fun kn => (kn.1, kn.2 + 1)) := by
  have hfind : cb.entries.find? (fun e => e.pfx == p ++ [b]) = none := List.find?_eq_none.mpr (by simpa using h)
  obtain ⟨e, he, hpfx⟩ := (cb.couldBegin_iff _).mp hopen
  have hlen : ((p ++ [b]).length == cb.maxLen) = false := by
    rw [beq_eq_false_iff_ne]
    intro heq
    exact h e he (hpfx.eq_of_length_le (heq ▸ hmax e he)).symm
  rw [Codebook.couldBegin] at hopen
  simp only [walkBits, hfind, hopen, hlen, Bool.not_true, Bool.or_self, Bool.false_eq_true, if_false]
  cases walkBits cb fuel (p ++ [b]) bs <;> rfl

end WalkStep

/-- The walk answers the entry whose bits are next: no other entry stops it on the way. -/
theorem walkBits_of_entry {cb : Codebook} (hmax : ∀ e ∈ cb.entries, e.pfx.length ≤ cb.maxLen)
    (hfree : ∀ e ∈ cb.entries, ∀ e' ∈ cb.entries, e.pfx <+: e'.pfx → e = e') {e : Entry} (he : e ∈ cb.entries)
    {fuel : Nat} {p r : Bits} {b : Bool} (hpfx : e.pfx = p ++ b :: r) (hfuel : r.length < fuel) (rest : Bits) :
    walkBits cb fuel p (b :: (r ++ rest)) = .ok (e.kind, r.length + 1) := by
  obtain ⟨fuel, rfl⟩ : ∃ n, fuel = n + 1 := ⟨fuel - 1, by omega⟩
  induction r generalizing p b fuel with
  | nil =>
    refine walkBits_hit fuel _ ?_
    cases hf : cb.entries.find? (fun e => e.pfx == p ++ [b]) with
    | none => exact absurd (List.find?_eq_none.mp hf e he) (by simp [hpfx])
    | some e' =>
      have he' : e'.pfx = e.pfx := hpfx ▸ by simpa using List.find?_some hf
      rw [hfree e' (List.mem_of_find?_eq_some hf) e he (he' ▸ List.prefix_rfl)]
  | cons c r ih =>
    have hnext : p ++ [b] <+: e.pfx := by simp [hpfx]
    have hmiss : ∀ e' ∈ cb.entries, e'.pfx ≠ p ++ [b] := by
      intro e' he' hq
      have hsame := hfree e' he' e he (hq ▸ hnext)
      simp [← hsame, hq] at hpfx
    obtain ⟨fuel, rfl⟩ : ∃ n, fuel = n + 1 := ⟨fuel - 1, by rw [List.length_cons] at hfuel; omega⟩
    rw [walkBits_go_on _ _ hmax hmiss ((cb.couldBegin_iff _).mpr ⟨e, he, hnext⟩), List.cons_append,
      ih (by simp [hpfx]) fuel (by simpa using hfuel)]
    rfl

/-- Bits that an entry could still begin with, and that hold no whole entry, are shorter than `MAX_PREFIX_LEN`. -/
theorem Codebook.length_lt_of_couldBegin {cb : Codebook} (hmax : ∀ e ∈ cb.entries, e.pfx.length ≤ cb.maxLen) {p : Bits}
    (hopen : cb.couldBegin p = true) (hno : ∀ e ∈ cb.entries, ¬ e.pfx <+: p) : p.length < cb.maxLen := by
  obtain ⟨e, he, hp⟩ := (cb.couldBegin_iff p).mp hopen
  by_contra hle
  have heq := hp.eq_of_length_le (by have := hmax e he; omega)
  exact hno e he (heq ▸ List.prefix_rfl)

/-- Where no entry is next, the walk ends short if the bits could still become one, and else at a dead end. -/
theorem walkBits_of_no_entry {cb : Codebook} (hmax : ∀ e ∈ cb.entries, e.pfx.length ≤ cb.maxLen) {fuel : Nat}
    {p bs : Bits} (hfuel : cb.maxLen ≤ p.length + fuel) (hopen : cb.couldBegin p = true)
    (hno : ∀ e ∈ cb.entries, ¬ e.pfx <+: p ++ bs) :
    walkBits cb fuel p bs = .error (if cb.couldBegin (p ++ bs) then .endOfStream else .readCorruption) := by
  have hlt := Codebook.length_lt_of_couldBegin hmax hopen fun e he hp => hno e he (hp.trans (List.prefix_append ..))
  induction bs generalizing p fuel with
  | nil =>
    obtain ⟨fuel, rfl⟩ : ∃ n, fuel = n + 1 := ⟨fuel - 1, by omega⟩
    rw [List.append_nil, if_pos hopen, walkBits]
  | cons b bs ih =>
    obtain ⟨fuel, rfl⟩ : ∃ n, fuel = n + 1 := ⟨fuel - 1, by omega⟩
    have hmiss : ∀ e ∈ cb.entries, e.pfx ≠ p ++ [b] := fun e he heq => hno e he (by simp [heq])
    have hnext : p ++ [b] <+: p ++ b :: bs := by simp
    cases hext : cb.couldBegin (p ++ [b]) with
    | false =>
      have hdead : cb.couldBegin (p ++ b :: bs) = false := by
        rw [Bool.eq_false_iff, ne_eq, Codebook.couldBegin_iff] at hext ⊢
        exact fun ⟨e, he, hp⟩ => hext ⟨e, he, hnext.trans hp⟩
      rw [walkBits_dead_end _ _ hmiss hext, hdead]
      rfl
    | true =>
      have hno' : ∀ e ∈ cb.entries, ¬ e.pfx <+: (p ++ [b]) ++ bs := by simpa using hno
      rw [walkBits_go_on _ _ hmax hmiss hext, ih (by rw [List.length_append, List.length_singleton]; omega) hext hno'
        (Codebook.length_lt_of_couldBegin hmax hext fun e he hp => hno e he (hp.trans hnext)), List.append_assoc]
      rfl

/-! ### The block's codebook -/

theorem walk_of_entry {e : Entry} (he : e ∈ Config.codebook.entries) (rest : Bits) :
    walkBits Config.codebook Config.codebook.maxLen [] (e.pfx ++ rest) = .ok (e.kind, e.pfx.length) := by
  have hpos := Entry.pfx_pos (codebook_entry_ok he)
  have hle := codebook_pfx_le he
  cases hp : e.pfx with
  | nil => simp [hp] at hpos
  | cons b r =>
    rw [hp, List.length_cons] at hle
    exact walkBits_of_entry (fun _ => codebook_pfx_le) (fun _ h _ => codebook_prefix_free h) he hp hle rest

theorem walk_of_no_entry {bs : Bits} (hno : ∀ e ∈ Config.codebook.entries, ¬ e.pfx <+: bs) :
    walkBits Config.codebook Config.codebook.maxLen [] bs =
      .error (if Config.codebook.couldBegin bs then .endOfStream else .readCorruption) :=
  walkBits_of_no_entry (fun _ => codebook_pfx_le) (Nat.le_add_left ..) rfl hno

/-! ## The AC decoder and `DecodeAC` (R50, R71) -/

theorem couldExtend_eq (b : Bits) : couldExtend b = Config.codebook.couldBegin b := by
  simp [couldExtend, Codebook.couldBegin, codebook_entries, List.any_map, Function.comp_def, rowEntry, Bool.or_assoc]

/-- The error that `DEC_STEP` raises where the decoder rejects the bits (R51, R107). -/
def raisedBy : DecodeError → ErrCode
  | .truncated => .endOfStream
  | _ => .readCorruption

/-- What the decoder reads and what `DecodeAC` reads are the same code, or the same error. -/
inductive AcAgrees : Except DecodeError (Instr × Bits) → Except ErrCode (AcKind × Code × Nat) → Prop where
  | code {i : Instr} {rest : Bits} {k : AcKind} {w : Code} {n : Nat} (h : ∀ s, exec i s = s.acElement n k w) :
      AcAgrees (.ok (i, rest)) (.ok (k, w, n))
  | error (e : DecodeError) : AcAgrees (.error e) (.error (raisedBy e))

theorem headField_toNat (n : Nat) (b : Bits) : (headField n b).toNat = bitsToNat (b.take n) := by
  have hlt := bitsToNat_lt (b.take n)
  have hle : 2 ^ (b.take n).length ≤ 2 ^ n := Nat.pow_le_pow_right (by decide) (List.length_take_le ..)
  rw [headField, BitVec.toNat_ofNat, Nat.mod_eq_of_lt (by omega)]

/-- Sixteen bits are a code word's two fields, six and ten (R43, R45). -/
theorem pack_headField {b : Bits} (h : 16 ≤ b.length) :
    pack (headField 6 b) (headField 10 (b.drop 6)) = headField 16 b := by
  have hten : ((b.drop 6).take 10).length = 10 := by
    rw [List.length_take, List.length_drop]
    omega
  apply BitVec.eq_of_toNat_eq
  rw [pack_toNat, headField_toNat, headField_toNat, headField_toNat, show 16 = 6 + 10 from rfl, List.take_add,
    bitsToNat_append, hten]
  rfl

theorem acOfBits_eob (rest : Bits) :
    acOfBits Config.codebook (Config.eobCode ++ rest) = .ok (.eob, Config.eodWord, 2) := by
  have hwalk := walk_of_entry (e := ⟨Config.eobCode, .eob⟩) (by simp [codebook_entries]) rest
  simp only [acOfBits, hwalk]
  rfl

theorem escPayload_agrees (rest : Bits) :
    AcAgrees (decodeEscPayload rest) (acOfBits Config.codebook (Config.escPrefix ++ rest)) := by
  have hwalk := walk_of_entry (e := ⟨Config.escPrefix, .esc⟩) (by simp [codebook_entries]) rest
  simp only [acOfBits, hwalk, List.drop_left, decodeEscPayload]
  split
  · exact .error .truncated
  · next hlen =>
    rw [← headField]
    by_cases heod : headField 16 rest = Config.eodWord
    · rw [if_pos heod, if_pos (by simp [isEod, heod])]
      exact .error .endOfDataCollision
    · rw [if_neg heod, if_neg (by simp [isEod, heod]), ← pack_headField (by omega)]
      exact .code fun _ => rfl

theorem walk_of_row {r : VlcRow} (hr : r ∈ vlcRows) (rest : Bits) :
    walkBits Config.codebook Config.codebook.maxLen [] (r.pfx ++ rest) = .ok (.normal r.run r.level, r.pfx.length) :=
  walk_of_entry (e := rowEntry r) (by simpa [codebook_entries] using .inr (.inr ⟨r, hr, rfl⟩)) rest

theorem acOfBits_row_nil {r : VlcRow} (hr : r ∈ vlcRows) :
    acOfBits Config.codebook (r.pfx ++ []) = .error .endOfStream := by
  simp only [acOfBits, walk_of_row hr, List.drop_left]

theorem acOfBits_row_cons {r : VlcRow} (hr : r ∈ vlcRows) (sign : Bool) (rest : Bits) :
    acOfBits Config.codebook (r.pfx ++ sign :: rest) =
      .ok (.normal, acWord r.run r.level sign, r.pfx.length + 1) := by
  simp only [acOfBits, walk_of_row hr, List.drop_left]

/-- The decoder's table match and the codebook's walk read the same code (R50, R69). -/
theorem decodeAc_agrees (bs : Bits) : AcAgrees (decodeAc bs) (acOfBits Config.codebook bs) := by
  unfold decodeAc
  split
  · next heob =>
    obtain ⟨rest, rfl⟩ := List.isPrefixOf_iff_prefix.mp heob
    rw [acOfBits_eob]
    exact .code fun _ => rfl
  · next heob =>
    split
    · next hesc =>
      obtain ⟨rest, rfl⟩ := List.isPrefixOf_iff_prefix.mp hesc
      rw [List.drop_left]
      exact escPayload_agrees rest
    · next hesc =>
      split
      · next r hfind =>
        have hr := List.mem_of_find?_eq_some hfind
        have hpfx : r.pfx <+: bs := by simpa using List.find?_some hfind
        obtain ⟨rest, rfl⟩ := hpfx
        rw [List.drop_left]
        cases rest with
        | nil => rw [acOfBits_row_nil hr]; exact .error .truncated
        | cons sign rest => rw [acOfBits_row_cons hr]; exact .code (rowRuns_of_mem hr sign)
      · next hfind =>
        have hno : ∀ e ∈ Config.codebook.entries, ¬ e.pfx <+: bs := by
          simp only [List.find?_eq_none, List.isPrefixOf_iff_prefix] at heob hesc hfind
          simpa [codebook_entries, rowEntry, heob, hesc] using hfind
        rw [acOfBits, walk_of_no_entry hno, couldExtend_eq]
        split
        · exact .error .truncated
        · exact .error .noCode

/-! ## `DEC_STEP` is the element at the cursor (R77-R79) -/

theorem exec_decStep_error {s : State} {e : ErrCode} (hopen : s.dec.phase ≠ .fault) (h : s.dec.step = .error e) :
    exec .decStep s = .next (s.raiseDec e) := by
  show s.runDec Dec.step = _
  rw [State.runDec_open hopen, h, State.finishDec_error]

theorem Dec.consume_ok {d : Dec} {n : Nat} (h : n ≤ d.remaining.length) (hpos : 1 ≤ n) :
    d.consume n = .ok (d.advance n) := by
  rw [Dec.remaining_length] at h
  rcases d.consume_cases n with ⟨hshort, _⟩ | ⟨_, hok⟩
  · omega
  · exact hok

theorem Dec.consumeAc_ok {d : Dec} {n : Nat} {k : AcKind} {w : Code} (hcode : AcCode k w n)
    (h : n ≤ d.remaining.length) (hpos : 1 ≤ n) : d.consumeAc n k w = .ok (k, w, d.advance n) := by
  have hcollide : ((k == .esc) && isEod w) = false := by
    rw [hcode.isEod_eq]
    cases k <;> rfl
  simp only [Dec.consumeAc, Dec.consume_ok h hpos, hcollide, Bool.false_eq_true, if_false]

theorem exec_decStep_ac {s : State} (hport : s.underCbDecode = false) (hphase : s.dec.phase = .readingAc) {k : AcKind}
    {w : Code} {n : Nat} (h : acOfBits Config.codebook s.dec.remaining = .ok (k, w, n)) :
    exec .decStep s = s.acElement n k w := by
  have hcode := acOfBits_answers s.dec.remaining
  rw [h] at hcode
  obtain ⟨hcode, hpos, hle⟩ := hcode
  rw [State.acElement_eq_stepElement hport, State.stepElement_placed (.inr hphase) (by rw [hphase]; rfl)]
  refine State.runDec_congr fun _ => ?_
  rw [Dec.step, Dec.stepWith_readingAc hphase, Dec.acAction, decodeAC_eq, h, Dec.acElementAction,
    Dec.consumeAc_ok hcode hle hpos]

theorem Dec.step_ac_error {d : Dec} (hphase : d.phase = .readingAc) {e : ErrCode}
    (h : acOfBits Config.codebook d.remaining = .error e) : d.step = .error e := by
  rw [Dec.step, Dec.stepWith_readingAc hphase, Dec.acAction, decodeAC_eq, h]

/-- `DEC_STEP` does what the decoded element does, or raises what the rejected bits raise. -/
def StepAgrees (s : State) : Except DecodeError (Instr × Bits) → Prop
  | .ok (i, _) => exec .decStep s = exec i s
  | .error e => exec .decStep s = .next (s.raiseDec (raisedBy e))

theorem decStep_agrees_ac {s : State} (hport : s.underCbDecode = false) (hphase : s.dec.phase = .readingAc) :
    StepAgrees s (decodeAc s.dec.remaining) := by
  have hagree := decodeAc_agrees s.dec.remaining
  generalize decodeAc s.dec.remaining = decoded at hagree ⊢
  generalize hbits : acOfBits Config.codebook s.dec.remaining = read at hagree
  cases hagree with
  | code h => exact (exec_decStep_ac hport hphase hbits).trans (h s).symm
  | error e => exact exec_decStep_error (by simp [hphase]) (Dec.step_ac_error hphase hbits)

/-- A DC element in its place: its bits are consumed, and the word is taken (R78). -/
theorem State.dcElement_placed {s : State} {mode : QMode} {len : Nat} (hphase : s.dec.phase = .blockStart)
    (hmode : s.dec.qmode = mode) (hlen : len ≤ s.dec.remaining.length) (hpos : 1 ≤ len) (w : Code) :
    s.dcElement mode len w = s.runDec (fun d => (d.advance len).takeDc w) := by
  rw [State.dcElement, State.stepElement_placed (.inl hphase) (by simp [hphase, hmode])]
  exact State.runDec_congr fun _ => by rw [Dec.consume_ok hlen hpos]

theorem exec_decStep_blockStart {s : State} (hphase : s.dec.phase = .blockStart) :
    exec .decStep s = s.runDec Dec.dcAction :=
  State.runDec_congr fun _ => Dec.stepWith_blockStart hphase ..

theorem decStep_agrees_dcGlobal {s : State} (hphase : s.dec.phase = .blockStart) (hmode : s.dec.qmode = .global) :
    StepAgrees s (decodeDcGlobal s.dec.remaining) := by
  have hread := s.dec.readBits_remaining (n := 10) (by decide)
  unfold decodeDcGlobal
  split
  · next hshort =>
    rw [if_pos hshort] at hread
    refine exec_decStep_error (by simp [hphase]) ?_
    simp only [Dec.step, Dec.stepWith_blockStart hphase, Dec.dcAction, Dec.readDc, hmode, hread, raisedBy]
  · next hroom =>
    rw [if_neg hroom] at hread
    show exec .decStep s = s.dcElement .global 10 _
    rw [exec_decStep_blockStart hphase, State.dcElement_placed hphase hmode (by omega) (by decide)]
    refine State.runDec_congr fun _ => ?_
    simp only [Dec.dcAction, Dec.readDc, hmode, hread, headField]

theorem decStep_agrees_dcPerBlock {s : State} (hphase : s.dec.phase = .blockStart) (hmode : s.dec.qmode = .perBlock) :
    StepAgrees s (decodeDcPerBlock s.dec.remaining) := by
  have hread := s.dec.readBits_remaining (n := 16) (by decide)
  unfold decodeDcPerBlock
  split
  · next hshort =>
    rw [if_pos hshort] at hread
    refine exec_decStep_error (by simp [hphase]) ?_
    simp only [Dec.step, Dec.stepWith_blockStart hphase, Dec.dcAction, Dec.readDc, hmode, hread, raisedBy]
  · next hroom =>
    rw [if_neg hroom] at hread
    have haction : s.dec.dcAction = (s.dec.advance 16).takeDc (headField 16 s.dec.remaining) := by
      simp only [Dec.dcAction, Dec.readDc, hmode, hread, headField]
    split
    · next heod =>
      refine exec_decStep_error (by simp [hphase]) ?_
      rw [Dec.step, Dec.stepWith_blockStart hphase, haction, Dec.takeDc, if_pos (by simp [isEod, heod])]
      rfl
    · show exec .decStep s = s.dcElement .perBlock 16 _
      rw [exec_decStep_blockStart hphase, State.dcElement_placed hphase hmode (by omega) (by decide),
        pack_headField (by omega)]
      exact State.runDec_congr fun _ => haction

theorem decStep_agrees {s : State} {pos : Position} (hport : s.underCbDecode = false)
    (hpos : (s.dec.phase = .readingAc ∧ pos = .ac) ∨
      (s.dec.phase = .blockStart ∧ s.dec.qmode = .global ∧ pos = .dcGlobal) ∨
      (s.dec.phase = .blockStart ∧ s.dec.qmode = .perBlock ∧ pos = .dcPerBlock)) :
    StepAgrees s (decodeStream pos s.dec.remaining) := by
  rcases hpos with ⟨hphase, rfl⟩ | ⟨hphase, hmode, rfl⟩ | ⟨hphase, hmode, rfl⟩
  · exact decStep_agrees_ac hport hphase
  · exact decStep_agrees_dcGlobal hphase hmode
  · exact decStep_agrees_dcPerBlock hphase hmode

/-- Settles O8: in each of the three places, the decoder and the engine read the same bits to the same end. -/
theorem decStepRunsTheElementAtTheCursor : Obligations.DecStepRunsTheElementAtTheCursor := by
  intro s pos hport hpos
  have hagree := decStep_agrees hport hpos
  cases hdecoded : decodeStream pos s.dec.remaining with
  | ok p => rw [hdecoded] at hagree; exact hagree
  | error e =>
    rw [hdecoded] at hagree
    cases e <;> exact hagree

end Sys2Proof.Machine
end

section
/-! PROOFS. The decoder against the encoder: the rows of the opcode table, the two round trips of a stream element, and
the command words. -/

namespace Sys2Proof.Machine

/-! ## The rows of the opcode table (R44, R48) -/

/-- Only the end-of-block, the escapes and the rows stand at an AC position (R41). -/
theorem eq_of_position_ac {i : Instr} (h : i.position = .ac) :
    i = .eob ∨ (∃ r l, i = .esc r l) ∨ ∃ row ∈ vlcRows, ∃ neg, i = row.build neg := by
  cases i with
  | eob => exact .inl rfl
  | esc r l => exact .inr (.inl ⟨r, l, rfl⟩)
  | dcGlobal | dcPerBlock | trailer => cases h
  | decReset | decRegRead | brInit | brReadU | brReadS | brPos | cbDecode | hdrParse | decStart | decStep | decSkipMb
  | decSkipPadding => cases h
  | encReset | encRegRead | bwInit | bwWrite | bwPos | bwFlush | cbLookup | encStart | encPut | encFinish => cases h
  | _ neg => exact .inr (.inr (by cases neg <;> decide +kernel))

theorem row_position {r : VlcRow} (hr : r ∈ vlcRows) (neg : Bool) : (r.build neg).position = .ac := by
  have hall : ∀ r ∈ vlcRows, ∀ neg : Bool, (r.build neg).position = .ac := by decide +kernel
  exact hall r hr neg

theorem row_wellFormed {r : VlcRow} (hr : r ∈ vlcRows) (neg : Bool) : (r.build neg).wellFormed = true := by
  have hall : ∀ r ∈ vlcRows, ∀ neg : Bool, (r.build neg).wellFormed = true := by decide +kernel
  exact hall r hr neg

theorem encode_row {r : VlcRow} (hr : r ∈ vlcRows) (neg : Bool) :
    encode (r.build neg) = .stream (r.pfx ++ [neg]) := by
  have hall : ∀ r ∈ vlcRows, ∀ neg : Bool, encode (r.build neg) = .stream (r.pfx ++ [neg]) := by decide +kernel
  exact hall r hr neg

/-- Settles O24. -/
theorem rowsAreTheTable : Obligations.RowsAreTheTable :=
  ⟨fun _ => eq_of_position_ac, fun _ hr neg => ⟨row_position hr neg, encode_row hr neg⟩, codebook_entries⟩

/-! ## Fields of bits (R42, R43, R45) -/

/-- A field written at the head of a bit string is read back. -/
@[simp] theorem headField_wordBits {n : Nat} (v : BitVec n) (rest : Bits) : headField n (wordBits v ++ rest) = v := by
  apply BitVec.eq_of_toNat_eq
  rw [headField_toNat, List.take_left' (wordBits_length v), bitsToNat_wordBits]

/-- A field read from the head of a bit string is the bits that stand there. -/
theorem wordBits_headField {n : Nat} {b : Bits} (h : n ≤ b.length) : wordBits (headField n b) = b.take n := by
  have hlen : (b.take n).length = n := by simp [h]
  have hbits := natToBits_bitsToNat (b.take n)
  rwa [hlen, ← headField_toNat] at hbits

/-- The bits of a six-bit and a ten-bit field, as they stand in the stream. -/
theorem eq_fields_append {b : Bits} (h : 16 ≤ b.length) :
    b = wordBits (headField 6 b) ++ wordBits (headField 10 (b.drop 6)) ++ b.drop 16 := by
  rw [wordBits_headField (by omega), wordBits_headField (by rw [List.length_drop]; omega), ← List.take_add,
    List.take_append_drop]

/-- Sixteen bits as two fields, unless they are `EOD_WORD`: what a PER_BLOCK DC field and the payload of an escape have
in common (R43, R45, R51). -/
def decodeFields (build : BitVec 6 → BitVec 10 → Instr) (b : Bits) : Except DecodeError (Instr × Bits) :=
  if b.length < 16 then .error .truncated
  else if headField 16 b = Config.eodWord then .error .endOfDataCollision
  else .ok (build (headField 6 b) (headField 10 (b.drop 6)), b.drop 16)

theorem decodeDcPerBlock_eq (b : Bits) : decodeDcPerBlock b = decodeFields .dcPerBlock b := rfl

theorem decodeEscPayload_eq (b : Bits) : decodeEscPayload b = decodeFields .esc b := rfl

theorem decodeFields_encoded {build : BitVec 6 → BitVec 10 → Instr} {q : BitVec 6} {d : BitVec 10}
    (h : pack q d ≠ Config.eodWord) (rest : Bits) :
    decodeFields build (wordBits q ++ wordBits d ++ rest) = .ok (build q d, rest) := by
  have hlen : ¬ (wordBits q ++ wordBits d ++ rest).length < 16 := by simp; omega
  have hword : headField 16 (wordBits q ++ wordBits d ++ rest) = pack q d := by
    rw [← wordBits_pack, headField_wordBits]
  have hrest : (wordBits q ++ wordBits d ++ rest).drop 16 = rest := List.drop_left' (by simp)
  have hlow : (wordBits q ++ wordBits d ++ rest).drop 6 = wordBits d ++ rest := by
    rw [List.append_assoc]
    exact List.drop_left' (by simp)
  rw [decodeFields, if_neg hlen, hword, if_neg h, hrest, hlow, headField_wordBits, List.append_assoc,
    headField_wordBits]

theorem decodeFields_ok {build : BitVec 6 → BitVec 10 → Instr} {b rest : Bits} {i : Instr}
    (h : decodeFields build b = .ok (i, rest)) :
    ∃ q d, i = build q d ∧ pack q d ≠ Config.eodWord ∧ b = wordBits q ++ wordBits d ++ rest := by
  unfold decodeFields at h
  split at h
  · cases h
  · next hlen =>
    split at h
    · cases h
    · next heod =>
      cases h
      rw [← pack_headField (by omega)] at heod
      exact ⟨_, _, rfl, heod, eq_fields_append (by omega)⟩

theorem decodeDcGlobal_encoded (d : BitVec 10) (rest : Bits) :
    decodeDcGlobal (wordBits d ++ rest) = .ok (.dcGlobal d, rest) := by
  have hrest : (wordBits d ++ rest).drop 10 = rest := List.drop_left' (by simp)
  rw [decodeDcGlobal, if_neg (by simp), headField_wordBits, hrest]

theorem decodeDcGlobal_ok {b rest : Bits} {i : Instr} (h : decodeDcGlobal b = .ok (i, rest)) :
    ∃ d, i = .dcGlobal d ∧ b = wordBits d ++ rest := by
  unfold decodeDcGlobal at h
  split at h
  · cases h
  · next hlen =>
    cases h
    exact ⟨_, rfl, by rw [wordBits_headField (by omega), List.take_append_drop]⟩

theorem decodeTrailer_encoded (rest : Bits) : decodeTrailer (Config.trailer ++ rest) = .ok (.trailer, rest) := by
  simp [decodeTrailer]

theorem decodeTrailer_ok {b rest : Bits} {i : Instr} (h : decodeTrailer b = .ok (i, rest)) :
    i = .trailer ∧ b = Config.trailer ++ rest := by
  unfold decodeTrailer at h
  split at h
  · cases h
  · split at h
    · next hpfx =>
      cases h
      obtain ⟨rest, rfl⟩ := List.isPrefixOf_iff_prefix.mp hpfx
      exact ⟨rfl, by rw [List.drop_left]⟩
    · cases h

/-! ## Codes at an AC position (R44-R46, R50) -/

/-- At most one entry of the codebook begins a bit string (R49). -/
theorem codebook_entry_unique {e e' : Entry} (he : e ∈ Config.codebook.entries) (he' : e' ∈ Config.codebook.entries)
    {b : Bits} (h : e.pfx <+: b) (h' : e'.pfx <+: b) : e = e' := by
  rcases List.prefix_or_prefix_of_prefix h h' with h | h
  · exact codebook_prefix_free he he' h
  · exact (codebook_prefix_free he' he h).symm

theorem eobEntry_mem : (⟨Config.eobCode, .eob⟩ : Entry) ∈ Config.codebook.entries := by simp [codebook_entries]

theorem escEntry_mem : (⟨Config.escPrefix, .esc⟩ : Entry) ∈ Config.codebook.entries := by simp [codebook_entries]

theorem rowEntry_mem {r : VlcRow} (hr : r ∈ vlcRows) : rowEntry r ∈ Config.codebook.entries := by
  rw [codebook_entries]
  exact List.mem_cons_of_mem _ (List.mem_cons_of_mem _ (List.mem_map_of_mem hr))

theorem row_eq_of_pfx_eq {r r' : VlcRow} (hr : r ∈ vlcRows) (hr' : r' ∈ vlcRows) (h : r.pfx = r'.pfx) : r = r' := by
  have hsplit : splitFree 17 (vlcRows.map VlcRow.pfx) = true := by decide +kernel
  have hnodup : (vlcRows.map VlcRow.pfx).Nodup := by
    refine (pairwise_diverges_of_prefixFree (prefixFree_of_splitFree hsplit)).imp ?_
    rintro p _ hdiverges rfl
    exact (not_prefix_of_diverges hdiverges).1 List.prefix_rfl
  exact List.inj_on_of_nodup_map hnodup hr hr' h

theorem decodeAc_eob (rest : Bits) : decodeAc (Config.eobCode ++ rest) = .ok (.eob, rest) := by
  simp [decodeAc]

theorem decodeAc_esc (b : Bits) : decodeAc (Config.escPrefix ++ b) = decodeEscPayload b := rfl

/-- Where the bits of a row stand, the decoder finds that row: no other code begins there. -/
theorem decodeAc_row {r : VlcRow} (hr : r ∈ vlcRows) (sign : Bool) (rest : Bits) :
    decodeAc (r.pfx ++ sign :: rest) = .ok (r.build sign, rest) := by
  have hpfx : (rowEntry r).pfx <+: r.pfx ++ sign :: rest := List.prefix_append ..
  have heob : ¬ Config.eobCode <+: r.pfx ++ sign :: rest := fun h =>
    nomatch congrArg Entry.kind (codebook_entry_unique eobEntry_mem (rowEntry_mem hr) h hpfx)
  have hesc : ¬ Config.escPrefix <+: r.pfx ++ sign :: rest := fun h =>
    nomatch congrArg Entry.kind (codebook_entry_unique escEntry_mem (rowEntry_mem hr) h hpfx)
  have hfind : vlcRows.find? (fun r' => r'.pfx.isPrefixOf (r.pfx ++ sign :: rest)) = some r := by
    cases hf : vlcRows.find? (fun r' => r'.pfx.isPrefixOf (r.pfx ++ sign :: rest)) with
    | none => exact absurd (List.find?_eq_none.mp hf r hr) (by simp)
    | some r' =>
      have hr' := List.mem_of_find?_eq_some hf
      have hpfx' : (rowEntry r').pfx <+: r.pfx ++ sign :: rest := by
        simpa [rowEntry] using List.find?_some hf
      have hsame := codebook_entry_unique (rowEntry_mem hr') (rowEntry_mem hr) hpfx' hpfx
      rw [row_eq_of_pfx_eq hr' hr (congrArg Entry.pfx hsame)]
  rw [← List.isPrefixOf_iff_prefix] at heob hesc
  rw [decodeAc, if_neg heob, if_neg hesc, hfind]
  simp only [List.drop_left]

/-- Everything the decoder can read at an AC position (R41, R50). -/
theorem decodeAc_ok {b rest : Bits} {i : Instr} (h : decodeAc b = .ok (i, rest)) :
    (i = .eob ∧ b = Config.eobCode ++ rest) ∨
    (∃ p, b = Config.escPrefix ++ p ∧ decodeEscPayload p = .ok (i, rest)) ∨
    ∃ r ∈ vlcRows, ∃ sign, i = r.build sign ∧ b = r.pfx ++ sign :: rest := by
  unfold decodeAc at h
  split at h
  · next heob =>
    cases h
    obtain ⟨rest, rfl⟩ := List.isPrefixOf_iff_prefix.mp heob
    exact .inl ⟨rfl, by rw [List.drop_left]⟩
  · split at h
    · next hesc =>
      obtain ⟨p, rfl⟩ := List.isPrefixOf_iff_prefix.mp hesc
      rw [List.drop_left] at h
      exact .inr (.inl ⟨p, rfl, h⟩)
    · split at h
      · next r hfind =>
        have hpfx : r.pfx <+: b := by simpa using List.find?_some hfind
        obtain ⟨tail, rfl⟩ := hpfx
        rw [List.drop_left] at h
        cases tail with
        | nil => cases h
        | cons sign tail =>
          cases h
          exact .inr (.inr ⟨r, List.mem_of_find?_eq_some hfind, sign, rfl, rfl⟩)
      · split at h <;> cases h

/-! ## Command words (R55, R56) -/

/-- Settles O3: each word's equation of `decodeCommand`. -/
theorem commandCodesDecode : Obligations.CommandCodesDecode := by
  intro a b c data
  and_intros <;> rfl

/-- An operand field at the low end of its 32-bit operand is read back. -/
theorem operandField_eq {n : Nat} (v : BitVec n) (h : n ≤ 32) : (v.setWidth 32 : Word32).extractLsb' 0 n = v := by
  have hle : 2 ^ n ≤ 2 ^ 32 := Nat.pow_le_pow_right (by decide) h
  have hlt : v.toNat < 2 ^ 32 := by have := v.isLt; omega
  apply BitVec.eq_of_toNat_eq
  rw [BitVec.extractLsb'_toNat, BitVec.toNat_setWidth, Nat.mod_eq_of_lt hlt, Nat.shiftRight_zero,
    Nat.mod_eq_of_lt v.isLt]

theorem orderOfBit_flagWord (o : Order) : orderOfBit ((flagWord (bitOfOrder o) : Word32).getLsbD 0) = o := by
  cases o <;> rfl

theorem qmodeOfBit_flagWord (q : QMode) : qmodeOfBit ((flagWord (bitOfQMode q) : Word32).getLsbD 0) = q := by
  cases q <;> rfl

/-- The words that R55 lists: `CMD[7:5]` is 0 and the number is below 0x0C, or 0x10 and below 0x1A. -/
def ListedWord (cmd : BitVec 8) : Prop := cmd.toNat ≤ 0x0B ∨ (0x10 ≤ cmd.toNat ∧ cmd.toNat ≤ 0x19)

theorem not_listedWord_iff (cmd : BitVec 8) :
    ¬ ListedWord cmd ↔
      (0x0C ≤ cmd.toNat ∧ cmd.toNat ≤ 0x0F) ∨ (0x1A ≤ cmd.toNat ∧ cmd.toNat ≤ 0x1F) ∨ cmd.toNat / 32 ≠ 0 := by
  unfold ListedWord
  omega

/-- The command decoder answers on the listed words and on no other. -/
theorem decodeCommand_cases (c : Command) :
    (ListedWord c.cmd ∧ ∃ i, decodeCommand c = .ok i) ∨
    (¬ ListedWord c.cmd ∧ decodeCommand c = .error (.illegalCommand c.cmd)) := by
  unfold decodeCommand ListedWord
  split
  case h_23 =>
    refine .inr ⟨?_, rfl⟩
    simp only [imp_false] at *
    omega
  all_goals exact .inl ⟨by omega, _, rfl⟩

theorem decodeCommand_illegal {c : Command} (h : ¬ ListedWord c.cmd) :
    decodeCommand c = .error (.illegalCommand c.cmd) := by
  rcases decodeCommand_cases c with ⟨hlisted, _⟩ | ⟨_, herror⟩
  · exact absurd hlisted h
  · exact herror

theorem listedWord_iff (c : Command) : ListedWord c.cmd ↔ ∃ i, decodeCommand c = .ok i := by
  rcases decodeCommand_cases c with ⟨hlisted, hok⟩ | ⟨hillegal, herror⟩
  · exact iff_of_true hlisted hok
  · exact iff_of_false hillegal (by simp [herror])

theorem illegalCommand_dec {cmd : BitVec 8} (h : cmd.getLsbD 4 = false) (s : State) :
    s.illegalCommand cmd = s.runDec (fun _ => .error .programmingFault) := by
  rw [State.illegalCommand, h]
  rfl

theorem illegalCommand_enc {cmd : BitVec 8} (h : cmd.getLsbD 4 = true) (s : State) :
    s.illegalCommand cmd = s.runEnc (fun _ => .error .programmingFault) := by
  rw [State.illegalCommand, h]
  rfl

/-- Settles O5: the words outside `ListedWord` are the ones that do not decode, and such a word raises behind the gate
of its unit. -/
theorem illegalCommandWordsRaise : Obligations.IllegalCommandWordsRaise := by
  refine ⟨fun c => ?_, fun s c cs hp hillegal => ?_⟩
  · rw [← not_listedWord_iff, listedWord_iff]
  · rw [← not_listedWord_iff] at hillegal
    rw [step_eq_illegalCommand hp (decodeCommand_illegal hillegal)]
    refine ⟨fun hunit hopen => ?_, fun hunit hopen => ?_, fun hunit hfault => ?_, fun hunit hfault => ?_⟩
    · rw [illegalCommand_dec hunit, State.runDec_open hopen]; rfl
    · rw [illegalCommand_enc hunit, State.runEnc_open hopen]; rfl
    · rw [illegalCommand_dec hunit, State.runDec_fault hfault]; rfl
    · rw [illegalCommand_enc hunit, State.runEnc_fault hfault]; rfl

/-! ## The round trips -/

/-- The encoding of `i` decodes to `i`: at its position with the bits that follow left over, or on the command port. -/
inductive DecodesBack (i : Instr) : Prop where
  | stream {b : Bits} (he : encode i = .stream b) (hp : i.position ≠ .command)
      (hd : ∀ rest, decodeStream i.position (b ++ rest) = .ok (i, rest)) : DecodesBack i
  | command {c : Command} (he : encode i = .command c) (hp : i.position = .command) (hd : decodeCommand c = .ok i) :
      DecodesBack i

theorem decodesBack_row {r : VlcRow} (hr : r ∈ vlcRows) (neg : Bool) : DecodesBack (r.build neg) := by
  have hpos := row_position hr neg
  refine .stream (encode_row hr neg) (by simp [hpos]) fun rest => ?_
  rw [hpos, List.append_assoc]
  exact decodeAc_row hr neg rest

theorem decodesBack_esc {r : BitVec 6} {l : BitVec 10} (h : pack r l ≠ Config.eodWord) : DecodesBack (.esc r l) := by
  refine .stream rfl nofun fun rest => ?_
  show decodeAc _ = _
  rw [List.append_assoc, decodeAc_esc, decodeEscPayload_eq, decodeFields_encoded h]

/-- A command decodes back when the operand fields that the decoder reads are the ones that were written. -/
theorem decodesBack_of_operands {i j : Instr} {c : Command} (he : encode i = .command c) (hp : i.position = .command)
    (hd : decodeCommand c = .ok j) (hfields : j = i) : DecodesBack i :=
  .command he hp (hfields ▸ hd)

/-- The round trip of every well-formed instruction: the codes by the table, the rest one by one. -/
theorem decodesBack {i : Instr} (hwf : i.wellFormed = true) : DecodesBack i := by
  by_cases hac : i.position = .ac
  · rcases eq_of_position_ac hac with rfl | ⟨r, l, rfl⟩ | ⟨row, hrow, neg, rfl⟩
    · exact .stream rfl nofun decodeAc_eob
    · exact decodesBack_esc (by simpa [Instr.wellFormed] using hwf)
    · exact decodesBack_row hrow neg
  · cases i with
    | dcGlobal d => exact .stream rfl nofun (decodeDcGlobal_encoded d)
    | dcPerBlock q d =>
      exact .stream rfl nofun (decodeFields_encoded (build := .dcPerBlock) (by simpa [Instr.wellFormed] using hwf))
    | trailer => exact .stream rfl nofun decodeTrailer_encoded
    | decReset | brPos | cbDecode | hdrParse | decStep | decSkipMb | decSkipPadding => exact .command rfl rfl rfl
    | encReset | bwPos | bwFlush | encFinish => exact .command rfl rfl rfl
    | decRegRead | brReadU | brReadS | encRegRead | bwWrite | cbLookup | encStart | encPut =>
      exact decodesBack_of_operands rfl rfl rfl (by simp only [operandField_eq, Nat.reduceLeDiff])
    | brInit | bwInit => exact decodesBack_of_operands rfl rfl rfl (by simp only [orderOfBit_flagWord])
    | decStart =>
      exact decodesBack_of_operands rfl rfl rfl (by simp only [operandField_eq, qmodeOfBit_flagWord, Nat.reduceLeDiff])
    | _ => exact absurd rfl hac

/-- Settles O1. -/
theorem decodeOfEncodeIsIdentity : Obligations.DecodeOfEncodeIsIdentity := by
  intro i hwf
  cases decodesBack hwf with
  | stream he hp hd => rw [he]; exact ⟨hp, hd⟩
  | command he hp hd => rw [he]; exact ⟨hp, hd⟩

/-- Settles O2, by what each position's decoder can answer. -/
theorem encodeOfDecodeIsIdentity : Obligations.EncodeOfDecodeIsIdentity := by
  intro pos b rest i h
  cases pos with
  | dcGlobal =>
    obtain ⟨d, rfl, hb⟩ := decodeDcGlobal_ok h
    exact ⟨rfl, rfl, _, rfl, hb⟩
  | dcPerBlock =>
    obtain ⟨q, d, rfl, heod, hb⟩ := decodeFields_ok h
    exact ⟨rfl, by simpa [Instr.wellFormed] using heod, _, rfl, hb⟩
  | ac =>
    rcases decodeAc_ok h with ⟨rfl, hb⟩ | ⟨p, rfl, hp⟩ | ⟨r, hr, sign, rfl, rfl⟩
    · exact ⟨rfl, rfl, _, rfl, hb⟩
    · obtain ⟨q, d, rfl, heod, rfl⟩ := decodeFields_ok hp
      exact ⟨rfl, by simpa [Instr.wellFormed] using heod, _, rfl, (List.append_assoc ..).symm⟩
    · exact ⟨row_position hr sign, row_wellFormed hr sign, _, encode_row hr sign, by simp⟩
  | trailer =>
    obtain ⟨rfl, hb⟩ := decodeTrailer_ok h
    exact ⟨rfl, rfl, _, rfl, hb⟩
  | command => cases h

/-- Settles O4: each word evaluated. -/
theorem specWordsDecode : Obligations.SpecWordsDecode := by
  and_intros <;> rfl

end Sys2Proof.Machine
end

section
/-! PROOFS. The properties of `STRV2_TABLE` (R49): no code begins another, and the only strings that start no code are
those with twelve leading zeros. -/

namespace Sys2Proof.Machine

theorem of_mem_tailsOf {b : Bool} {xs : Bits} {cs : List Bits} (h : xs ∈ tailsOf b cs) : (b :: xs) ∈ cs := by
  induction cs with
  | nil => cases h
  | cons c cs ih =>
    cases c with
    | nil => exact List.mem_cons_of_mem _ (ih h)
    | cons x ys =>
      by_cases hx : x = b
      · subst hx
        simp only [tailsOf, if_true, List.mem_cons] at h
        rcases h with rfl | h
        · exact List.mem_cons_self
        · exact List.mem_cons_of_mem _ (ih h)
      · simp only [tailsOf, if_neg hx] at h
        exact List.mem_cons_of_mem _ (ih h)

/-- Every string of `n` bits begins with a string of the list, checked by splitting on the first bit. -/
def splitCovers : Nat → List Bits → Bool
  | 0, cs => cs.contains []
  | n + 1, cs => cs.contains [] || (splitCovers n (tailsOf false cs) && splitCovers n (tailsOf true cs))

theorem exists_prefix_of_splitCovers {n : Nat} {cs : List Bits} (h : splitCovers n cs = true) {b : Bits}
    (hb : n ≤ b.length) : ∃ c ∈ cs, c <+: b := by
  induction n generalizing cs b with
  | zero => exact ⟨[], by simpa [splitCovers] using h, List.nil_prefix⟩
  | succ n ih =>
    simp only [splitCovers, Bool.or_eq_true, Bool.and_eq_true, List.contains_iff_mem] at h
    rcases h with hnil | ⟨hfalse, htrue⟩
    · exact ⟨[], hnil, List.nil_prefix⟩
    · cases b with
      | nil => simp at hb
      | cons x b =>
        have htails : splitCovers n (tailsOf x cs) = true := by cases x <;> assumption
        obtain ⟨c, hc, hpfx⟩ := ih htails (Nat.le_of_succ_le_succ hb)
        exact ⟨x :: c, of_mem_tailsOf hc, List.cons_prefix_cons.mpr ⟨rfl, hpfx⟩⟩

/-- The complete codes of the table, both signs of each row (R48). -/
def tableCodes : List Bits := strv2Table.flatMap entryCodes

theorem tableCodes_prefixFree : prefixFree tableCodes = true := by
  have hsplit : splitFree 17 tableCodes = true := by decide +kernel
  exact prefixFree_of_splitFree hsplit

/-- A string of the longest code's length starts no code exactly when it begins with twelve zeros (R49 item 4). -/
theorem no_tableCode_iff {b : Bits} (hb : 17 ≤ b.length) :
    (∀ c ∈ tableCodes, ¬ c <+: b) ↔ List.replicate 12 false <+: b := by
  have hcovers : splitCovers 17 (List.replicate 12 false :: tableCodes) = true := by decide +kernel
  have hdiverges : ∀ c ∈ tableCodes, diverges (List.replicate 12 false) c = true := by decide +kernel
  constructor
  · intro hno
    obtain ⟨c, hc, hpfx⟩ := exists_prefix_of_splitCovers hcovers hb
    rcases List.mem_cons.mp hc with rfl | hc
    · exact hpfx
    · exact absurd hpfx (hno c hc)
  · intro hzeros c hc hpfx
    obtain ⟨hleft, hright⟩ := not_prefix_of_diverges (hdiverges c hc)
    exact (List.prefix_or_prefix_of_prefix hzeros hpfx).elim hleft hright

/-- Settles O16: the class of the unused strings from `no_tableCode_iff`, the counts and the maxima by evaluating the
table. -/
theorem tableHasItsProperties : Obligations.TableHasItsProperties := by
  have hpairs : pairsDistinct (normalPairs strv2Table) = true := by decide +kernel
  have hlengths : tableCodes.all (fun c => decide (c.length ≤ 17)) = true := by decide +kernel
  have hranges : ∀ p ∈ normalPairs strv2Table, p.1 ≤ 31 ∧ 1 ≤ p.2 ∧ p.2 ≤ 40 := by decide +kernel
  refine ⟨tableCodes_prefixFree, rfl, hpairs, by decide +kernel, rfl, rfl, hlengths, ?_, ?_, ?_, hranges, ?_, ?_⟩
  · decide +kernel
  · decide +kernel
  · exact fun _ => no_tableCode_iff
  · decide +kernel
  · decide +kernel

end Sys2Proof.Machine
end

section
/-! PROOFS. The stream elements in their places: what each emits or reports, and how it fails. -/

namespace Sys2Proof.Machine

/-! ## The bits at the cursor (R57) -/

theorem Dec.consume_there {d : Dec} {n : Nat} (h : Claims.bitsThere d n) : d.consume n = .ok (d.advance n) := by
  rw [Dec.consume, (Dec.not_short_iff d n).mpr h]
  rfl

theorem Dec.consume_missing {d : Dec} {n : Nat} (h : ¬ Claims.bitsThere d n) : d.consume n = .error .endOfStream := by
  rw [Dec.consume, (Dec.short_iff d n).mpr (Nat.lt_of_not_le h)]
  rfl

theorem Dec.consumeAc_there {d : Dec} {n : Nat} {k : AcKind} {w : Code} (h : Claims.bitsThere d n)
    (hcode : k = .esc → w ≠ Config.eodWord) : d.consumeAc n k w = .ok (k, w, d.advance n) := by
  have hcollide : ((k == .esc) && isEod w) = false := by
    cases k with
    | esc => exact (not_isEod_iff w).mpr (hcode rfl)
    | normal | eob => rfl
  simp only [Dec.consumeAc, Dec.consume_there h, hcollide, Bool.false_eq_true, if_false]

theorem Dec.consumeAc_missing {d : Dec} {n : Nat} (h : ¬ Claims.bitsThere d n) (k : AcKind) (w : Code) :
    d.consumeAc n k w = .error .endOfStream := by
  rw [Dec.consumeAc, Dec.consume_missing h]

/-- The payload of an escape that is `EOD_WORD` is corrupt (R51 case 3). -/
theorem Dec.consumeAc_collision {d : Dec} {n : Nat} (h : Claims.bitsThere d n) :
    d.consumeAc n .esc Config.eodWord = .error .readCorruption := by
  rw [Dec.consumeAc, Dec.consume_there h]
  rfl

theorem pack_eq_eodWord_iff (q : BitVec 6) (d : BitVec 10) : pack q d = Config.eodWord ↔ q = 63 ∧ d = 512 := by
  constructor
  · intro h
    exact ⟨by rw [← topField_pack q d, h]; rfl, by rw [← bottomField_pack q d, h]; rfl⟩
  · rintro ⟨rfl, rfl⟩
    rfl

/-! ## AC codes in a frame (R79) -/

section ReadingAc
variable {s : State} {n : Nat}

/-- At an AC position, an AC element is the action of `READING_AC` on it. -/
theorem State.acElement_readingAc (hport : s.underCbDecode = false) (hphase : s.dec.phase = .readingAc) (n : Nat)
    (k : AcKind) (w : Code) : s.acElement n k w = .next (s.finishDec (Dec.acElementAction n k w s.dec)) := by
  rw [State.acElement_eq_stepElement hport, State.stepElement_placed (.inr hphase) (by rw [hphase]; rfl),
    State.runDec_open (by simp [hphase])]

theorem State.acElement_emits (hport : s.underCbDecode = false) (hphase : s.dec.phase = .readingAc) {k : AcKind}
    {w : Code} (h : Claims.bitsThere s.dec n) (hcode : k = .esc → w ≠ Config.eodWord) :
    s.acElement n k w = Claims.decNext s ((s.dec.advance n).takeAc k w).2 (Claims.ok2 1 (w.setWidth 32)) := by
  rw [State.acElement_readingAc hport hphase, Dec.acElementAction, Dec.consumeAc_there h hcode]
  rfl

theorem State.acElement_ends (hport : s.underCbDecode = false) (hphase : s.dec.phase = .readingAc)
    (h : ¬ Claims.bitsThere s.dec n) (k : AcKind) (w : Code) :
    s.acElement n k w = Claims.decRaises s .endOfStream .endOfStream := by
  rw [State.acElement_readingAc hport hphase, Dec.acElementAction, Dec.consumeAc_missing h]
  rfl

theorem State.acElement_collides (hport : s.underCbDecode = false) (hphase : s.dec.phase = .readingAc)
    (h : Claims.bitsThere s.dec n) :
    s.acElement n .esc Config.eodWord = Claims.decRaises s .readCorruption .readCorruption := by
  rw [State.acElement_readingAc hport hphase, Dec.acElementAction, Dec.consumeAc_collision h]
  rfl

end ReadingAc

/-! ## The rows (R44, R48) -/

/-- The word of a pair is the number of R48: the run above the ten bits of the signed level. -/
theorem acWord_eq_rowWord {run level : Nat} (h1 : 1 ≤ level) (h2 : level ≤ 511) (neg : Bool) :
    acWord run level neg = Claims.rowWord run level neg := by
  apply BitVec.eq_of_toNat_eq
  rw [acWord, pack_toNat, Claims.rowWord]
  cases neg with
  | false => simp only [Bool.false_eq_true, if_false, BitVec.toNat_ofNat]; omega
  | true => simp only [if_true, BitVec.toNat_neg, BitVec.toNat_ofNat]; omega

/-- A row's instruction is the AC element of the row's length and word. -/
theorem exec_row {r : VlcRow} (hr : r ∈ vlcRows) (neg : Bool) (s : State) :
    exec (r.build neg) s = s.acElement (r.pfx.length + 1) .normal (Claims.rowWord r.run r.level neg) := by
  have hranges : ∀ r ∈ vlcRows, 1 ≤ r.level ∧ r.level ≤ 511 := by decide +kernel
  obtain ⟨h1, h2⟩ := hranges r hr
  rw [rowRuns_of_mem hr, acWord_eq_rowWord h1 h2]

/-- Settles O22. -/
theorem vlcCodesAreEmitted : Obligations.VlcCodesAreEmitted := by
  intro r hr neg s hport hphase
  rw [exec_row hr]
  exact ⟨fun h => State.acElement_emits hport hphase h nofun, fun h => State.acElement_ends hport hphase h ..⟩

/-- Under `CB_DECODE` an AC element whose bits are there is reported, and only the cursor moves (R72). -/
theorem State.acElement_reported {s : State} {n : Nat} {k : AcKind} {w : Code} (hport : s.underCbDecode = true)
    (hopen : s.dec.phase ≠ .fault) (h : Claims.bitsThere s.dec n) (hcode : k = .esc → w ≠ Config.eodWord) :
    s.acElement n k w = Claims.decNext s (s.dec.advance n) (cbDecodeResponse k w) := by
  rw [State.acElement, if_pos hport, State.runDec_open hopen, Dec.consumeAc_there h hcode]
  rfl

/-- Settles O23. -/
theorem vlcCodesAreReportedUnderCbDecode : Obligations.VlcCodesAreReportedUnderCbDecode := by
  intro r hr neg s hport hopen h
  rw [exec_row hr]
  exact State.acElement_reported hport hopen h nofun

/-! ## EOB and ESC (R45, R46) -/

theorem Dec.takeAc_eob (d : Dec) (n : Nat) :
    ((d.advance n).takeAc .eob Config.eodWord).2 = { Claims.emitAfter d n 0xFE00 with phase := .blockDone } := rfl

/-- An escape counts a level of 0 (R79, R108). -/
theorem Dec.takeAc_esc (d : Dec) (n : Nat) (r : BitVec 6) (l : BitVec 10) :
    ((d.advance n).takeAc .esc (pack r l)).2 =
      { Claims.emitAfter d n (r ++ l) with esczero := if l = 0 then d.esczero + 1 else d.esczero } := by
  have hlevel : s10 (pack r l) = 0 ↔ l = 0 := by
    rw [s10, bottomField_pack]
    exact BitVec.toInt_inj (y := 0)
  by_cases h : l = 0
  · have hlog : (s10 (pack r l) == 0) = true := by simpa [hlevel] using h
    simp only [Dec.takeAc, Dec.logEscZero, hlog, if_pos h]
    rfl
  · have hlog : (s10 (pack r l) == 0) = false := by simpa [hlevel] using h
    simp only [Dec.takeAc, Dec.logEscZero, hlog, if_neg h]
    rfl

/-- Settles O25. -/
theorem eobAndEscAreEmitted : Obligations.EobAndEscAreEmitted := by
  intro s hport hphase
  refine ⟨fun h => ?_, fun h => State.acElement_ends hport hphase h .., fun r l => ⟨fun h => ?_, fun h heod => ?_,
    fun h heod => ?_⟩⟩
  · exact State.acElement_emits hport hphase h nofun
  · exact State.acElement_ends hport hphase h ..
  · show s.acElement 22 .esc (r ++ l) = _
    rw [heod]
    exact State.acElement_collides hport hphase h
  · rw [← Dec.takeAc_esc]
    exact State.acElement_emits hport hphase h fun _ => heod

/-! ## DC fields (R42, R43, R78) -/

section BlockStart
variable {s : State} {mode : QMode} {n : Nat} {w : Code}

theorem State.dcElement_there (hphase : s.dec.phase = .blockStart) (hmode : s.dec.qmode = mode)
    (h : Claims.bitsThere s.dec n) (w : Code) :
    s.dcElement mode n w = .next (s.finishDec ((s.dec.advance n).takeDc w)) := by
  rw [State.dcElement, State.stepElement_placed (.inl hphase) (by simp [hphase, hmode]),
    State.runDec_open (by simp [hphase]), Dec.consume_there h]

theorem State.dcElement_emits (hphase : s.dec.phase = .blockStart) (hmode : s.dec.qmode = mode)
    (h : Claims.bitsThere s.dec n) (heod : w ≠ Config.eodWord) :
    s.dcElement mode n w =
      Claims.decNext s { Claims.emitAfter s.dec n w with phase := .readingAc } (Claims.ok2 1 (w.setWidth 32)) := by
  rw [State.dcElement_there hphase hmode h, Dec.takeDc, (not_isEod_iff w).mpr heod]
  rfl

/-- A DC field that makes the word `EOD_WORD` is corrupt (R51 case 2). -/
theorem State.dcElement_collides (hphase : s.dec.phase = .blockStart) (hmode : s.dec.qmode = mode)
    (h : Claims.bitsThere s.dec n) :
    s.dcElement mode n Config.eodWord = Claims.decRaises s .readCorruption .readCorruption := by
  rw [State.dcElement_there hphase hmode h]
  rfl

theorem State.dcElement_ends (hphase : s.dec.phase = .blockStart) (hmode : s.dec.qmode = mode)
    (h : ¬ Claims.bitsThere s.dec n) (w : Code) :
    s.dcElement mode n w = Claims.decRaises s .endOfStream .endOfStream := by
  rw [State.dcElement, State.stepElement_placed (.inl hphase) (by simp [hphase, hmode]),
    State.runDec_open (by simp [hphase]), Dec.consume_missing h]
  rfl

/-- Everything a DC field can do in its place: its bits are missing, its word is `EOD_WORD`, or the word is emitted. -/
theorem State.dcElement_answers (hphase : s.dec.phase = .blockStart) (hmode : s.dec.qmode = mode) (q : BitVec 6)
    (d : BitVec 10) :
    (¬ Claims.bitsThere s.dec n → s.dcElement mode n (pack q d) = Claims.decRaises s .endOfStream .endOfStream) ∧
    (Claims.bitsThere s.dec n → q = 63 ∧ d = 512 →
      s.dcElement mode n (pack q d) = Claims.decRaises s .readCorruption .readCorruption) ∧
    (Claims.bitsThere s.dec n → ¬ (q = 63 ∧ d = 512) →
      s.dcElement mode n (pack q d) =
        Claims.decNext s { Claims.emitAfter s.dec n (pack q d) with phase := .readingAc }
          (Claims.ok2 1 ((pack q d).setWidth 32))) := by
  rw [← pack_eq_eodWord_iff]
  refine ⟨fun h => State.dcElement_ends hphase hmode h _, fun h heod => ?_, State.dcElement_emits hphase hmode⟩
  rw [heod]
  exact State.dcElement_collides hphase hmode h

end BlockStart

/-- Settles O26: both modes from `State.dcElement_answers`. -/
theorem dcFieldsAreEmitted : Obligations.DcFieldsAreEmitted := fun s _ hphase =>
  ⟨fun d hmode => State.dcElement_answers hphase hmode s.dec.qscale d,
    fun q d hmode => State.dcElement_answers hphase hmode q d⟩

/-! ## TRAILER (R47, R83) -/

section SkipPadding
variable {d : Dec} {read read' : Dec → Except ErrCode (Nat × Dec)}

theorem Dec.skipPaddingWith_refused (h : d.phase ≠ .frameDone ∨ d.paddone = true) :
    Dec.skipPaddingWith read d = .error .programmingFault := if_pos h

theorem Dec.skipPaddingWith_error {e : ErrCode} (hphase : d.phase = .frameDone) (hfirst : d.paddone = false)
    (h : read d = .error e) : Dec.skipPaddingWith read d = .error e := by
  rw [Dec.skipPaddingWith, if_neg (by simp [hphase, hfirst]), h]

theorem Dec.skipPaddingWith_ok {d' : Dec} {v : Nat} (hphase : d.phase = .frameDone) (hfirst : d.paddone = false)
    (h : read d = .ok (v, d')) :
    Dec.skipPaddingWith read d =
      .ok (respXY (BitVec.ofNat 32 v) (flagWord (d'.setPadding v).padwarn), d'.setPadding v) := by
  rw [Dec.skipPaddingWith, if_neg (by simp [hphase, hfirst]), h]

theorem Dec.skipPaddingWith_congr (h : read d = read' d) :
    Dec.skipPaddingWith read d = Dec.skipPaddingWith read' d := by
  simp only [Dec.skipPaddingWith, h]

end SkipPadding

/-- The read of TRAILER: 11 bits are consumed, and they are the pattern. -/
def Dec.readTrailer (d : Dec) : Except ErrCode (Nat × Dec) :=
  match d.consume Config.trailer.length with
  | .error e => .error e
  | .ok d' => .ok (bitsToNat Config.trailer, d')

theorem exec_trailer_eq (s : State) : exec .trailer s = s.runDec (Dec.skipPaddingWith Dec.readTrailer) := rfl

theorem Dec.readTrailer_there {d : Dec} (h : Claims.bitsThere d 11) :
    d.readTrailer = .ok (bitsToNat Config.trailer, d.advance 11) := by
  have hconsume : d.consume Config.trailer.length = .ok (d.advance 11) := Dec.consume_there h
  rw [Dec.readTrailer, hconsume]

theorem Dec.readTrailer_missing {d : Dec} (h : ¬ Claims.bitsThere d 11) : d.readTrailer = .error .endOfStream := by
  have hconsume : d.consume Config.trailer.length = .error .endOfStream := Dec.consume_missing h
  rw [Dec.readTrailer, hconsume]

/-- Where the pattern stands at the cursor, reading 11 bits reads the trailer. -/
theorem Dec.readBits_trailer {d : Dec} (h : Config.trailer <+: d.remaining) :
    d.readBits Config.trailer.length = d.readTrailer := by
  obtain ⟨rest, hrest⟩ := h
  have hlen : Config.trailer.length ≤ d.remaining.length := by simp [← hrest]
  rw [Dec.readBits_remaining (by decide), if_neg (by omega), ← hrest, List.take_left, Dec.readTrailer,
    Dec.consume_ok hlen (by decide)]

theorem exec_decSkipPadding_trailer {s : State} (h : Config.trailer <+: s.dec.remaining) :
    exec .decSkipPadding s = exec .trailer s := by
  rw [exec_trailer_eq]
  exact State.runDec_congr fun _ => Dec.skipPaddingWith_congr (Dec.readBits_trailer h)

/-- Settles O27. -/
theorem trailerIsAccepted : Obligations.TrailerIsAccepted := by
  intro s
  refine ⟨fun hphase hfirst => ⟨fun h => ?_, fun h => ?_, exec_decSkipPadding_trailer⟩, fun hopen h => ?_⟩
  · rw [exec_trailer_eq, State.runDec_open (by simp [hphase]),
      Dec.skipPaddingWith_ok hphase hfirst (Dec.readTrailer_there h)]
    rfl
  · rw [exec_trailer_eq, State.runDec_open (by simp [hphase]),
      Dec.skipPaddingWith_error hphase hfirst (Dec.readTrailer_missing h)]
    rfl
  · rw [exec_trailer_eq, State.runDec_open hopen, Dec.skipPaddingWith_refused h]
    rfl

end Sys2Proof.Machine
end

section
/-! PROOFS. The reader's commands and its cursor: what `BR_INIT` constructs, what a raw read returns, and that the
cursor moves only on. -/

namespace Sys2Proof.Machine

/-! ## The cursor (R58) -/

/-- `d'` stands in the stream of `d`, not before it, and within its end where `d` does. -/
structure Dec.CursorForward (d d' : Dec) : Prop where
  nbits : d'.nbits = d.nbits
  le : d.bitpos.toNat ≤ d'.bitpos.toNat
  within : d.bitpos.toNat ≤ d.nbits.toNat → d'.bitpos.toNat ≤ d'.nbits.toNat

theorem Dec.SameStream.nbits {d d' : Dec} (h : Dec.SameStream d d') : d'.nbits = d.nbits := by
  rw [Dec.nbits, Dec.nbits, h.buflen]

namespace Dec.CursorForward
variable {d d' d'' : Dec}

theorem trans (h : CursorForward d d') (h' : CursorForward d' d'') : CursorForward d d'' :=
  ⟨h'.nbits.trans h.nbits, h.le.trans h'.le, fun hd => h'.within (h.within hd)⟩

theorem of_bitpos_eq (hs : SameStream d d') (hpos : d'.bitpos = d.bitpos) : CursorForward d d' :=
  ⟨hs.nbits, by rw [hpos], fun hd => by rwa [hpos, hs.nbits]⟩

theorem refl (d : Dec) : CursorForward d d := of_bitpos_eq (.refl d) rfl

/-- Reading bits that are there moves the cursor on, and not past the end. -/
theorem advance {n : Nat} (hn : d.bitpos.toNat + n ≤ d.nbits.toNat) : CursorForward d (d.advance n) :=
  ⟨rfl, advance_bitpos_le hn, fun _ => by rw [advance_toNat hn]; exact hn⟩

theorem raised (d : Dec) (e : ErrCode) : CursorForward d (d.raised e) := of_bitpos_eq (raised_sameStream d e) rfl

end Dec.CursorForward

theorem Dec.EngineStep.cursorForward {b : Bool} {d d' : Dec} (h : Dec.EngineStep b d d') : d.CursorForward d' := by
  have hs := h.sameStream
  cases h with
  | dc _ hn => exact .trans (.advance hn) (.of_bitpos_eq ⟨rfl, rfl, rfl⟩ rfl)
  | ac _ hn => exact .trans (.advance hn) (.of_bitpos_eq (Dec.takeAc_sameStream ..) (Dec.takeAc_bitpos ..))
  | block =>
    obtain ⟨_, _, hpos⟩ := d.advanceBlock_frame
    exact .of_bitpos_eq hs hpos
  | frame => exact .refl d

theorem Dec.EngineRun.cursorForward {d d' : Dec} (h : Dec.EngineRun d d') : d.CursorForward d' := by
  induction h with
  | refl => exact .refl d
  | tail _ hstep ih => exact ih.trans hstep.cursorForward

theorem Dec.Action.cursorForward {i : Instr} {d d' : Dec} (h : Dec.Action i d d') : d.CursorForward d' := by
  have hs := h.sameStream
  cases h with
  | same => exact .refl d
  | read _ hn => exact .advance hn
  | latch | clear => exact .of_bitpos_eq hs rfl
  | start hstart =>
    obtain ⟨_, _, rfl⟩ := Dec.start_ok hstart
    exact .of_bitpos_eq hs rfl
  | padding _ v _ _ hn => exact .trans (.advance hn) (.of_bitpos_eq ⟨rfl, rfl, rfl⟩ rfl)
  | engine hstep => exact hstep.cursorForward
  | skip hrun => exact hrun.cursorForward

/-- Only the reset and the load of a buffer set the cursor (R58). -/
theorem Dec.Change.cursorForward {i : Instr} {d d' : Dec} (h : Dec.Change i d d') (hreset : i ≠ .decReset)
    (hload : ∀ order offset data, i ≠ .brInit order offset data) : d.CursorForward d' := by
  cases h with
  | kept => exact .refl d
  | reset => exact absurd rfl hreset
  | loaded | notLoaded => exact absurd rfl (hload _ _ _)
  | raised => exact .raised d _
  | skipRaised _ hrun => exact hrun.cursorForward.trans (.raised ..)
  | action _ haction => exact haction.cursorForward

/-- Settles O14, from everything that an instruction can leave of DEC. -/
theorem cursorOnlyAdvances : Obligations.CursorOnlyAdvances := by
  intro i s t hwithin h hreset hload
  have hforward := (exec_dec_change h).cursorForward hreset hload
  exact ⟨hforward.le, hforward.within hwithin, hforward.nbits⟩

/-! ## `BR_INIT` (R60) -/

theorem exec_brInit_eq (order : Order) (offset : Word32) (data : List Byte) (s : State) :
    exec (.brInit order offset data) s = .next (s.finishDec (brInit order offset data)) := rfl

theorem brInit_tooLong {data : List Byte} (h : Config.bufMax.val < data.length) (order : Order) (offset : Word32) :
    brInit order offset data = .error .programmingFault := by
  rw [brInit, if_pos h]

theorem brInit_offsetPastEnd {offset : Word32} {data : List Byte} (hdata : data.length ≤ Config.bufMax.val)
    (h : 16 * (data.length / 2) < offset.toNat) (order : Order) :
    brInit order offset data = .error .programmingFault := by
  rw [brInit, if_neg (Nat.not_lt.mpr hdata), if_pos h]

theorem brInit_ok {offset : Word32} {data : List Byte} (hdata : data.length ≤ Config.bufMax.val)
    (h : offset.toNat ≤ 16 * (data.length / 2)) (order : Order) :
    brInit order offset data = .ok (respStatus .ok, Dec.loaded order offset data) := by
  rw [brInit, if_neg (Nat.not_lt.mpr hdata), if_neg (Nat.not_lt.mpr h)]

/-- The length of a buffer within the limit of R4 fits `BUFLEN`. -/
theorem toNat_ofNat_length {data : List Byte} (hdata : data.length ≤ Config.bufMax.val) :
    (BitVec.ofNat 32 data.length).toNat = data.length := by
  have hmax := Config.bufMax.isLt
  exact Nat.mod_eq_of_lt (by omega)

/-- Settles O10: the two checks in their order, then the registers of the constructed unit. -/
theorem brInitConstructsTheReader : Obligations.BrInitConstructsTheReader := by
  refine ⟨fun _ _ _ _ => rfl, fun s order offset data => ?_⟩
  refine ⟨fun hlong => ?_, fun hdata hpast => ?_, fun hdata hin => ?_⟩
  · rw [exec_brInit_eq, brInit_tooLong hlong]; rfl
  · rw [exec_brInit_eq, brInit_offsetPastEnd hdata hpast]; rfl
  · refine ⟨Mem.ofBytes data, Mem.ofBytes_wf data, fun i hi => ?_, toNat_ofNat_length hdata, ?_⟩
    · rw [Mem.read_ofBytes, List.getElem?_eq_getElem hi, Option.getD_some]
    · rw [exec_brInit_eq, brInit_ok hdata hin]; rfl

/-! ## Raw reads (R61, R62) -/

/-- The width check of R61, R62 and R65. -/
theorem badWidth_iff (n : BitVec 6) : badWidth n = true ↔ n.toNat < 1 ∨ 32 < n.toNat := by
  rw [badWidth, Bool.or_eq_true, decide_eq_true_iff, decide_eq_true_iff]
  rfl

theorem badWidth_eq_false {n : BitVec 6} (hlow : 1 ≤ n.toNat) (hhigh : n.toNat ≤ 32) : badWidth n = false := by
  rw [← Bool.not_eq_true, badWidth_iff]
  omega

theorem Dec.rawRead_badWidth {n : BitVec 6} (h : badWidth n = true) (view : Nat → Word32) (d : Dec) :
    d.rawRead n view = .error .programmingFault := by
  rw [Dec.rawRead, if_pos h]

theorem Dec.rawRead_missing {n : BitVec 6} {d : Dec} (hwidth : badWidth n = false)
    (h : ¬ Claims.bitsThere d n.toNat) (view : Nat → Word32) : d.rawRead n view = .error .endOfStream := by
  rw [Dec.rawRead, hwidth, Dec.readBits_error (Nat.lt_of_not_le h)]
  rfl

theorem Dec.rawRead_there {n : BitVec 6} {d : Dec} (hwidth : badWidth n = false) (h : Claims.bitsThere d n.toNat)
    (view : Nat → Word32) :
    d.rawRead n view =
      .ok (respX (view (bitsToNat (d.streamBits d.bitpos.toNat n.toNat))), d.advance n.toNat) := by
  rw [Dec.rawRead, hwidth, Dec.readBits_ok h]
  rfl

theorem exec_brReadU_eq {s : State} (hopen : s.dec.phase ≠ .fault) (n : BitVec 6) :
    exec (.brReadU n) s = .next (s.finishDec (s.dec.rawRead n (BitVec.ofNat 32))) :=
  State.runDec_open hopen _

theorem exec_brReadS_eq {s : State} (hopen : s.dec.phase ≠ .fault) (n : BitVec 6) :
    exec (.brReadS n) s = .next (s.finishDec (s.dec.rawRead n (sext32 n.toNat))) :=
  State.runDec_open hopen _

theorem Dec.bitsToNat_streamBits_lt (d : Dec) (p n : Nat) : bitsToNat (d.streamBits p n) < 2 ^ n := by
  simpa only [Dec.streamBits_length] using bitsToNat_lt (d.streamBits p n)

/-- The first stream bit is the most significant of the value read (R57). -/
theorem Dec.testBit_bitsToNat_streamBits (d : Dec) (p : Nat) {n i : Nat} (hi : i < n) :
    (bitsToNat (d.streamBits p n)).testBit (n - 1 - i) = d.streamBit (p + i) := by
  have hbit := testBit_bitsToNat (d.streamBits p n) i (by rwa [Dec.streamBits_length])
  rw [Dec.streamBits_getElem] at hbit
  rwa [Dec.streamBits_length] at hbit

/-- The sign extension as the 32-bit form of one integer (R6, R62). -/
theorem sext32_eq_ofInt (n v : Nat) :
    sext32 n v = BitVec.ofInt 32 (if v.testBit (n - 1) then (v : Int) - 2 ^ n else v) := by
  unfold sext32
  split
  · rfl
  · exact (BitVec.ofInt_natCast 32 v).symm

/-- Settles O11: the width check, the end of the stream, and the value of the bits at the cursor. -/
theorem rawReadsReturnTheBits : Obligations.RawReadsReturnTheBits := by
  refine ⟨fun _ _ _ _ => ⟨rfl, rfl⟩, fun s n hopen => ?_⟩
  rw [exec_brReadU_eq hopen, exec_brReadS_eq hopen]
  refine ⟨fun hbad => ?_, fun hlow hhigh hmissing => ?_, fun hlow hhigh hthere => ?_⟩
  · have hwidth := (badWidth_iff n).mpr hbad
    rw [Dec.rawRead_badWidth hwidth, Dec.rawRead_badWidth hwidth]
    exact ⟨rfl, rfl⟩
  · have hwidth := badWidth_eq_false hlow hhigh
    rw [Dec.rawRead_missing hwidth hmissing, Dec.rawRead_missing hwidth hmissing]
    exact ⟨rfl, rfl⟩
  · have hwidth := badWidth_eq_false hlow hhigh
    rw [Dec.rawRead_there hwidth hthere, Dec.rawRead_there hwidth hthere, sext32_eq_ofInt]
    exact ⟨_, Dec.bitsToNat_streamBits_lt .., fun _ => Dec.testBit_bitsToNat_streamBits _ _, rfl, rfl⟩

end Sys2Proof.Machine
end

section
/-! PROOFS. The reported positions, and the writer's commands: what `BW_INIT` constructs, what `BW_WRITE` appends, the
padding, and where a flush stores the words. -/

namespace Sys2Proof.Machine

/-! ## Positions (R63, R66) -/

theorem udiv_sixteen (w : Word32) : w / 16 = BitVec.ofNat 32 (w.toNat / 16) := by
  apply BitVec.eq_of_toNat_eq
  rw [BitVec.toNat_udiv, BitVec.toNat_ofNat]
  exact (Nat.mod_eq_of_lt (Nat.lt_of_le_of_lt (Nat.div_le_self ..) w.isLt)).symm

theorem exec_brPos_eq {s : State} (hopen : s.dec.phase ≠ .fault) :
    exec .brPos s = Claims.decNext s s.dec (respXY s.dec.bitpos (s.dec.bitpos / 16)) :=
  State.runDec_open hopen fun d => .ok (respXY d.bitpos (d.bitpos / 16), d)

theorem exec_bwPos_eq {s : State} (hopen : s.enc.phase ≠ .fault) :
    exec .bwPos s = Claims.encNext s s.enc (respXY s.enc.wbits (s.enc.wbits / 16)) :=
  State.runEnc_open hopen fun e => .ok (respXY e.wbits (e.wbits / 16), e)

/-- Settles O12: both commands answer a position and its quotient by 16. -/
theorem positionsAreReported : Obligations.PositionsAreReported := by
  refine ⟨fun _ _ _ _ => ⟨rfl, rfl⟩, fun s hopen => ?_, fun s hopen => ?_⟩
  · rw [exec_brPos_eq hopen, udiv_sixteen]; rfl
  · rw [exec_bwPos_eq hopen, udiv_sixteen]; rfl

/-! ## `BW_WRITE` (R65) -/

@[simp] theorem valueBits_length (value : Word32) (n : BitVec 6) : (valueBits value n).length = n.toNat :=
  natToBits_length ..

theorem valueBits_getElem (value : Word32) (n : BitVec 6) (i : Nat) (h : i < (valueBits value n).length) :
    (valueBits value n)[i] = value.getLsbD (n.toNat - 1 - i) :=
  natToBits_getElem n.toNat value.toNat i h

theorem Enc.bwWrite_badWidth {n : BitVec 6} (h : badWidth n = true) (value : Word32) (e : Enc) :
    e.bwWrite value n = .error .programmingFault := by
  rw [Enc.bwWrite, if_pos h]

theorem Enc.bwWrite_full {n : BitVec 6} {e : Enc} (hwidth : badWidth n = false)
    (h : 2 ^ 32 - 1 < e.wbits.toNat + n.toNat) (value : Word32) : e.bwWrite value n = .error .programmingFault := by
  rw [Enc.bwWrite, hwidth, Enc.writeBits_error (by rwa [valueBits_length])]
  rfl

theorem Enc.bwWrite_fits {n : BitVec 6} {e : Enc} (hwidth : badWidth n = false)
    (h : e.wbits.toNat + n.toNat ≤ 2 ^ 32 - 1) (value : Word32) :
    e.bwWrite value n =
      .ok (respX (e.appended (valueBits value n)).wbits, e.appended (valueBits value n)) := by
  rw [Enc.bwWrite, hwidth, Enc.writeBits_ok (by rwa [valueBits_length])]
  rfl

theorem exec_bwWrite_eq {s : State} (hopen : s.enc.phase ≠ .fault) (value : Word32) (n : BitVec 6) :
    exec (.bwWrite value n) s = .next (s.finishEnc (s.enc.bwWrite value n)) :=
  State.runEnc_open hopen _

/-- Settles O40: the registers of the new writer, and the three outcomes of a write. -/
theorem writerIsInitialisedAndWritten : Obligations.WriterIsInitialisedAndWritten := by
  refine ⟨fun _ _ _ _ => ⟨rfl, rfl⟩, fun _ _ => rfl, fun s value n hopen => ?_⟩
  rw [exec_bwWrite_eq hopen]
  refine ⟨fun hbad => ?_, fun hlow hhigh hfull => ?_, fun hlow hhigh hfit => ?_⟩
  · rw [Enc.bwWrite_badWidth ((badWidth_iff n).mpr hbad)]; rfl
  · rw [Enc.bwWrite_full (badWidth_eq_false hlow hhigh) hfull]; rfl
  · refine ⟨valueBits value n, valueBits_length value n, valueBits_getElem value n, ?_⟩
    rw [Enc.bwWrite_fits (badWidth_eq_false hlow hhigh) hfit, Enc.appended, valueBits_length]
    rfl

/-! ## The padding (R67, R91) -/

/-- The words of the stream, the unfinished one counted. -/
def Enc.wordCount (e : Enc) : Nat := (e.wbits.toNat + 15) / 16

/-- The padding fills the last word. -/
theorem Enc.wbits_add_padding (e : Enc) : e.wbits.toNat + e.padding = 16 * e.wordCount := by
  unfold Enc.padding Enc.wordCount
  omega

/-- The unit with its stream filled to whole words. -/
def Enc.padded (e : Enc) : Enc := e.appended (List.replicate e.padding false)

theorem Enc.writeBits_padding_full {e : Enc} (h : 2 ^ 32 - 1 < 16 * e.wordCount) :
    e.writeBits (List.replicate e.padding false) = .error .programmingFault :=
  Enc.writeBits_error (by rwa [List.length_replicate, Enc.wbits_add_padding])

theorem Enc.writeBits_padding_fits {e : Enc} (h : 16 * e.wordCount ≤ 2 ^ 32 - 1) :
    e.writeBits (List.replicate e.padding false) = .ok e.padded :=
  Enc.writeBits_ok (by rwa [List.length_replicate, Enc.wbits_add_padding])

theorem Enc.padded_wbits {e : Enc} (h : 16 * e.wordCount ≤ 2 ^ 32 - 1) :
    e.padded.wbits.toNat = 16 * e.wordCount := by
  rw [Enc.padded, Enc.appended_wbits, List.length_replicate, Enc.wbits_add_padding]
  rwa [List.length_replicate, Enc.wbits_add_padding]

/-- The padded stream is whole words. -/
theorem Enc.padded_wstream_length {e : Enc} (hinv : e.Inv) :
    e.padded.wstream.length = 16 * e.wordCount := by
  rw [← Enc.wbits_add_padding, hinv.wbits_len]
  simp [Enc.padded, Enc.appended]

/-! ## The stored words (R29) -/

/-- Bit `k` of word `j` of a bit string. -/
theorem streamWord_getLsbD_eq_getD {b : Bits} {j k : Nat} (hj : 16 * (j + 1) ≤ b.length) (hk : k < 16) :
    (streamWord b j).getLsbD k = b.getD (16 * j + 15 - k) false := by
  have hi : 16 * j + 15 - k < b.length := by omega
  have hdiv : (16 * j + 15 - k) / 16 = j := by omega
  have hbit : 15 - (16 * j + 15 - k) % 16 = k := by omega
  have hword := streamWord_getLsbD hi (by omega)
  rw [hdiv, hbit] at hword
  rw [hword, List.getD_eq_getElem b false hi]

/-- Word `j` of a bit string stored from `base` on is the two bytes at `base + 2j`. -/
theorem orderBytes_of_stored {o : Order} {b : Bits} {n j base : Nat} {m : Mem} (hj : j < n)
    (hm : ∀ (i : Nat) (h : i < (streamBytes o b n).length), m.read (base + i) = (streamBytes o b n)[i]) :
    orderBytes o (streamWord b j) = [m.read (base + 2 * j), m.read (base + 2 * j + 1)] := by
  obtain ⟨rest, hrest⟩ := streamBytes_drop o b hj
  have hlen := streamBytes_length o b n
  have hread (k : Nat) (hk : k < 2) :
      m.read (base + 2 * j + k) = (orderBytes o (streamWord b j))[k]'(by rwa [orderBytes_length]) := by
    rw [Nat.add_assoc, hm _ (by omega), ← List.getElem_drop (h := by rw [List.length_drop]; omega)]
    simp only [hrest]
    exact List.getElem_append_left _
  rw [show m.read (base + 2 * j) = m.read (base + 2 * j + 0) from rfl, hread 0 (by decide), hread 1 (by decide)]
  cases o <;> rfl

/-- Whole words written in an order stand in that order. -/
theorem wordsStored_writeBytes {m : Mem} (hwf : m.wf = true) (o : Order) {b : Bits} {n : Nat} (hlen : b.length = 16 * n)
    (base : Nat) : Claims.wordsStored o b base (m.writeBytes base (streamBytes o b n)) := by
  intro j hj k hk
  have hbytes : orderBytes o (streamWord b j) = _ :=
    orderBytes_of_stored (by omega) fun i hi => Mem.read_writeBytes_in hwf base i (streamBytes o b n) hi
  have hlow : ((streamWord b j).extractLsb' 0 8).getLsbD k = b.getD (16 * j + 15 - k) false := by
    rw [← streamWord_getLsbD_eq_getD hj (by omega)]
    simp [hk]
  have hhigh : ((streamWord b j).extractLsb' 8 8).getLsbD k = b.getD (16 * j + 7 - k) false := by
    rw [show 16 * j + 7 - k = 16 * j + 15 - (8 + k) by omega, ← streamWord_getLsbD_eq_getD hj (by omega)]
    simp [hk]
  constructor
  · rintro rfl
    obtain ⟨hfirst, hsecond⟩ : _ = _ ∧ _ = _ := by simpa [orderBytes] using hbytes
    exact ⟨hfirst ▸ hlow, hsecond ▸ hhigh⟩
  · rintro rfl
    obtain ⟨hfirst, hsecond⟩ : _ = _ ∧ _ = _ := by simpa [orderBytes] using hbytes
    exact ⟨hfirst ▸ hhigh, hsecond ▸ hlow⟩

theorem Enc.storeWords_eq {e : Enc} {n : Nat} (h : e.wbits.toNat = 16 * n) (base : Nat) :
    e.storeWords base =
      { e with
        obuf := e.obuf.writeBytes base (streamBytes e.order e.wstream n)
        outlen := BitVec.ofNat 32 (base + 2 * n) } := by
  rw [Enc.storeWords, h, Nat.mul_div_cancel_left n (by decide)]

/-! ## `BW_FLUSH` (R67) -/

theorem exec_bwFlush_eq {s : State} (hopen : s.enc.phase ≠ .fault) :
    exec .bwFlush s = .next (s.finishEnc s.enc.bwFlush) :=
  State.runEnc_open hopen _

theorem Enc.bwFlush_full {e : Enc} (h : 2 ^ 32 - 1 < 16 * e.wordCount) :
    e.bwFlush = .error .programmingFault := by
  rw [Enc.bwFlush, Enc.writeBits_padding_full h]

theorem Enc.bwFlush_fits {e : Enc} (h : 16 * e.wordCount ≤ 2 ^ 32 - 1) :
    e.bwFlush =
      .ok (⟨.ok, some (e.padded.storeWords 0).outlen, none, some (e.padded.storeWords 0).output⟩,
        e.padded.storeWords 0) := by
  rw [Enc.bwFlush, Enc.writeBits_padding_fits h]

/-- What a flush leaves of the unit: the frame, and the two counts of the whole words. -/
theorem Enc.flushed_eq {e : Enc} (h : 16 * e.wordCount ≤ 2 ^ 32 - 1) :
    e.padded.storeWords 0 =
      { e with
        wstream := e.padded.wstream
        wbits := BitVec.ofNat 32 (16 * e.wordCount)
        obuf := (e.padded.storeWords 0).obuf
        outlen := BitVec.ofNat 32 (2 * e.wordCount) } := by
  have hwbits : e.padded.wbits = BitVec.ofNat 32 (16 * e.wordCount) := by
    rw [← Enc.padded_wbits h, BitVec.ofNat_toNat, BitVec.setWidth_eq]
  rw [← hwbits, Enc.storeWords_eq (Enc.padded_wbits h), Nat.zero_add]
  rfl

theorem Enc.flushed_output {e : Enc} (h : 16 * e.wordCount ≤ 2 ^ 32 - 1) :
    (e.padded.storeWords 0).output =
      (List.range (2 * e.wordCount)).map (e.padded.storeWords 0).obuf.read := by
  rw [Enc.output, Mem.bytes, Enc.storeWords_outlen (Nat.zero_le _), Enc.padded_wbits h, Nat.zero_add,
    Nat.mul_div_cancel_left _ (by decide)]

/-- Settles O41: the padded stream is whole words, and these are what the flush stores. -/
theorem flushStoresTheWords : Obligations.FlushStoresTheWords := by
  refine ⟨fun _ _ _ _ => rfl, fun s words hinv hopen hwords => ?_⟩
  obtain rfl : words = s.enc.wordCount := hwords
  rw [exec_bwFlush_eq hopen]
  refine ⟨fun hfull => ?_, fun hfit => ?_⟩
  · rw [Enc.bwFlush_full hfull]; rfl
  · have hwbits := Enc.padded_wbits hfit
    have hpad : s.enc.padding = 16 * s.enc.wordCount - s.enc.wbits.toNat :=
      Nat.eq_sub_of_add_eq' s.enc.wbits_add_padding
    refine ⟨(s.enc.padded.storeWords 0).obuf, s.enc.padded.wstream, ?_, ?_, ?_⟩
    · rw [← hpad]; rfl
    · rw [Enc.storeWords_eq hwbits]
      exact wordsStored_writeBytes hinv.obuf_wf s.enc.order (Enc.padded_wstream_length hinv) 0
    · rw [Enc.bwFlush_fits hfit, Enc.flushed_output hfit, Enc.flushed_eq hfit]
      rfl

/-! ## `ENC_FINISH` on a full writer (R59, R91) -/

theorem exec_encFinish_eq {s : State} (hopen : s.enc.phase ≠ .fault) :
    exec .encFinish s = .next (s.finishEnc s.enc.finish) :=
  State.runEnc_open hopen _

/-- The trailer or the padding after it is past the capacity: `WriteBits` raises at whichever does not fit. -/
theorem Enc.finish_full {e : Enc} (hphase : e.phase = .frameDone) (hcount : countHint e.codecount.toNat ≤ 32767)
    (hfull : 2 ^ 32 - 1 < 16 * ((e.wbits.toNat + 11 + 15) / 16)) : e.finish = .error .programmingFault := by
  rw [Enc.finish, if_neg (not_not.mpr hphase), if_neg (Nat.not_lt.mpr hcount)]
  rcases e.writeBits_cases Config.trailer with ⟨_, herror⟩ | ⟨hfit, hok⟩
  · rw [herror]
  · have hwords : (e.appended Config.trailer).wordCount = (e.wbits.toNat + 11 + 15) / 16 := by
      rw [Enc.wordCount, Enc.appended_wbits hfit]
      rfl
    have hpad := Enc.writeBits_padding_full (hwords ▸ hfull)
    simp only [hok, hpad]

/-- Settles O49. -/
theorem finishOnAFullWriterRaises : Obligations.FinishOnAFullWriterRaises := by
  intro s _ hphase hcount hfull
  rw [exec_encFinish_eq (by simp [hphase]), Enc.finish_full hphase hcount hfull]
  rfl

end Sys2Proof.Machine
end

section
/-! PROOFS. The match of every admitted codebook (R68-R70): which entry it finds, or which error it raises, as
a function of the bits that remain at the cursor. -/

namespace Sys2Proof.Machine

/-! ## Admitted codebooks (R68) -/

/-- What the proofs use of the five conditions: items 2 to 5, and of item 1 that there is an entry. -/
structure Codebook.Admitted (cb : Codebook) : Prop where
  entries_ne_nil : cb.entries ≠ []
  pairs_inRange : ∀ p ∈ normalPairs cb.entries, pairInRange p = true
  pairs_distinct : pairsDistinct (normalPairs cb.entries) = true
  codes_prefixFree : prefixFree (cb.entries.flatMap entryCodes) = true
  pfx_length : ∀ e ∈ cb.entries, 1 ≤ e.pfx.length ∧ e.pfx.length ≤ cb.maxLen

theorem Codebook.isAdmitted (cb : Codebook) : cb.Admitted := by
  have h := cb.admitted
  simp only [tableAdmitted, Bool.and_eq_true, List.all_eq_true, decide_eq_true_eq] at h
  obtain ⟨⟨⟨⟨⟨hone, _⟩, hrange⟩, hdistinct⟩, hfree⟩, hlen⟩ := h
  exact ⟨fun hnil => by simp [hnil] at hone, hrange, hdistinct, hfree, hlen⟩

theorem Codebook.pfx_le (cb : Codebook) : ∀ e ∈ cb.entries, e.pfx.length ≤ cb.maxLen :=
  fun e he => (cb.isAdmitted.pfx_length e he).2

/-- A bit string that goes on from an entry's bits lies along one of the entry's codes. -/
theorem exists_code_along {e : Entry} {b : Bits} (h : e.pfx <+: b) : ∃ c ∈ entryCodes e, c <+: b ∨ b <+: c := by
  cases hk : e.kind with
  | eob | esc => exact ⟨e.pfx, by simp [entryCodes, hk], .inl h⟩
  | normal run level =>
    obtain ⟨rest, rfl⟩ := h
    cases rest with
    | nil => exact ⟨e.pfx ++ [false], by simp [entryCodes, hk], .inr (by simp)⟩
    | cons sign rest => exact ⟨e.pfx ++ [sign], by cases sign <;> simp [entryCodes, hk], .inl (by simp)⟩

theorem exists_code_from_pfx (e : Entry) : ∃ c ∈ entryCodes e, e.pfx <+: c := by
  cases hk : e.kind with
  | eob | esc => exact ⟨e.pfx, by simp [entryCodes, hk], List.prefix_rfl⟩
  | normal run level => exact ⟨e.pfx ++ [false], by simp [entryCodes, hk], List.prefix_append ..⟩

/-- Codes of two entries never lie along each other (R68 item 4). -/
theorem Codebook.codes_apart (cb : Codebook) {e e' : Entry} (he : e ∈ cb.entries) (he' : e' ∈ cb.entries)
    (hne : e ≠ e') {c c' : Bits} (hc : c ∈ entryCodes e) (hc' : c' ∈ entryCodes e') : ¬ c <+: c' ∧ ¬ c' <+: c := by
  have hcodes := (pairwise_diverges_of_prefixFree cb.isAdmitted.codes_prefixFree).imp not_prefix_of_diverges
  have hpairs := (List.pairwise_flatMap.mp hcodes).2
  have hsymm : Std.Symm (fun e e' : Entry => ∀ c ∈ entryCodes e, ∀ c' ∈ entryCodes e', ¬ c <+: c' ∧ ¬ c' <+: c) :=
    ⟨fun _ _ h c hc c' hc' => (h c' hc' c hc).symm⟩
  exact hpairs.forall he he' hne c hc c' hc'

/-- No entry's bits begin another entry's: their codes would lie along each other. -/
theorem Codebook.pfx_free (cb : Codebook) {e e' : Entry} (he : e ∈ cb.entries) (he' : e' ∈ cb.entries)
    (h : e.pfx <+: e'.pfx) : e = e' := by
  by_contra hne
  obtain ⟨c', hc', hpfx'⟩ := exists_code_from_pfx e'
  obtain ⟨c, hc, halong⟩ := exists_code_along (h.trans hpfx')
  obtain ⟨hleft, hright⟩ := cb.codes_apart he he' hne hc hc'
  exact halong.elim hleft hright

/-! ## What the match answers (R69) -/

theorem Codebook.walk_of_entry (cb : Codebook) {e : Entry} (he : e ∈ cb.entries) (rest : Bits) :
    walkBits cb cb.maxLen [] (e.pfx ++ rest) = .ok (e.kind, e.pfx.length) := by
  obtain ⟨hpos, hle⟩ := cb.isAdmitted.pfx_length e he
  cases hp : e.pfx with
  | nil => simp [hp] at hpos
  | cons b r =>
    rw [hp, List.length_cons] at hle
    exact walkBits_of_entry cb.pfx_le (fun _ h _ h' => cb.pfx_free h h') he hp hle rest

theorem Codebook.couldBegin_nil (cb : Codebook) : cb.couldBegin [] = true := by
  obtain ⟨e, he⟩ := List.exists_mem_of_ne_nil _ cb.isAdmitted.entries_ne_nil
  exact (cb.couldBegin_iff []).mpr ⟨e, he, List.nil_prefix⟩

/-- An entry at the cursor is matched, and exactly its bits are consumed. -/
theorem cbMatch_of_entry {cb : Codebook} {e : Entry} (he : e ∈ cb.entries) {d : Dec} (h : e.pfx <+: d.remaining) :
    cbMatch cb d = .ok (e.kind, d.advance e.pfx.length) := by
  obtain ⟨rest, hrest⟩ := h
  rw [cbMatch, cbWalk_eq, ← hrest, cb.walk_of_entry he]

/-- With no entry at the cursor, the stream ends where the bits could still become one, and is corrupt elsewhere. -/
theorem cbMatch_of_no_entry {cb : Codebook} {d : Dec} (hno : ∀ e ∈ cb.entries, ¬ e.pfx <+: d.remaining) :
    cbMatch cb d = .error (if cb.couldBegin d.remaining then .endOfStream else .readCorruption) := by
  have hwalk := walkBits_of_no_entry cb.pfx_le (Nat.le_add_left ..) cb.couldBegin_nil (bs := d.remaining) hno
  rw [cbMatch, cbWalk_eq, hwalk]
  rfl

/-- Either an entry stands at the head of the bits, or none does. -/
theorem Codebook.entry_or_none (cb : Codebook) (b : Bits) :
    (∃ e ∈ cb.entries, e.pfx <+: b) ∨ ∀ e ∈ cb.entries, ¬ e.pfx <+: b := by
  simpa using Classical.em (∃ e ∈ cb.entries, e.pfx <+: b)

/-- The match is by the set of entries and not by their order. -/
theorem cbMatch_perm {cb cb' : Codebook} (h : cb.entries.Perm cb'.entries) (d : Dec) :
    cbMatch cb d = cbMatch cb' d := by
  rcases cb.entry_or_none d.remaining with ⟨e, he, hpfx⟩ | hno
  · rw [cbMatch_of_entry he hpfx, cbMatch_of_entry (h.mem_iff.mp he) hpfx]
  · have hopen : cb.couldBegin d.remaining = cb'.couldBegin d.remaining := h.any_eq
    rw [cbMatch_of_no_entry hno, cbMatch_of_no_entry fun e he => hno e (h.mem_iff.mpr he), hopen]

/-- Settles O17: the match is decided by which entry, if any, stands at the head of the remaining bits. -/
theorem matchDependsOnTheBitsAlone : Obligations.MatchDependsOnTheBitsAlone := by
  refine ⟨fun cb e e' he he' h => cb.pfx_free he he' (h ▸ List.prefix_rfl), fun cb cb' d h _ => cbMatch_perm h d,
    fun cb d d' h => ?_⟩
  rcases cb.entry_or_none d.remaining with ⟨e, he, hpfx⟩ | hno
  · rw [cbMatch_of_entry he hpfx, cbMatch_of_entry he (h ▸ hpfx)]
    simp
  · rw [cbMatch_of_no_entry hno, cbMatch_of_no_entry (h ▸ hno), h]

/-! ## Twelve zeros (R69, R51 case 1) -/

/-- Twelve zeros differ from every entry's bits (R49 item 4). -/
theorem zeros_apart {e : Entry} (he : e ∈ Config.codebook.entries) :
    ¬ List.replicate 12 false <+: e.pfx ∧ ¬ e.pfx <+: List.replicate 12 false := by
  have hall : ∀ e ∈ strv2Table, diverges (List.replicate 12 false) e.pfx = true := by decide +kernel
  exact not_prefix_of_diverges (hall e he)

/-- Every bit string lies along an entry of the table or along the twelve zeros. -/
theorem pfx_or_zeros_along (b : Bits) :
    (∃ e ∈ Config.codebook.entries, e.pfx <+: b ∨ b <+: e.pfx) ∨
      (List.replicate 12 false <+: b ∨ b <+: List.replicate 12 false) := by
  have hcovers : splitCovers 16 (List.replicate 12 false :: strv2Table.map Entry.pfx) = true := by decide +kernel
  obtain ⟨c, hc, hpfx⟩ := exists_prefix_of_splitCovers hcovers (b := b ++ List.replicate 16 false) (by simp)
  have halong := List.prefix_or_prefix_of_prefix hpfx (List.prefix_append b _)
  rcases List.mem_cons.mp hc with rfl | hc
  · exact .inr halong
  · obtain ⟨e, he, rfl⟩ := List.mem_map.mp hc
    exact .inl ⟨e, he, halong⟩

/-- The bits that hold no entry of the table and that none extends are those that begin with twelve zeros: eleven zeros
still begin an entry. -/
theorem dead_end_iff_zeros (b : Bits) :
    ((∀ e ∈ Config.codebook.entries, ¬ e.pfx <+: b) ∧ ∀ e ∈ Config.codebook.entries, ¬ b <+: e.pfx) ↔
      List.replicate 12 false <+: b := by
  constructor
  · rintro ⟨hno, hdead⟩
    rcases pfx_or_zeros_along b with ⟨e, he, h | h⟩ | h | h
    · exact absurd h (hno e he)
    · exact absurd h (hdead e he)
    · exact h
    · obtain ⟨e, he, heleven⟩ : ∃ e ∈ strv2Table, List.replicate 11 false <+: e.pfx := by decide +kernel
      rw [List.replicate_succ', List.prefix_concat_iff] at h
      rcases h with rfl | h
      · exact List.prefix_rfl
      · exact absurd (h.trans heleven) (hdead e he)
  · intro h
    refine ⟨fun e he hpfx => ?_, fun e he hpfx => (zeros_apart he).1 (h.trans hpfx)⟩
    obtain ⟨hleft, hright⟩ := zeros_apart he
    exact (List.prefix_or_prefix_of_prefix h hpfx).elim hleft hright

/-- Settles O18: the two lemmas of the match, and for the table the bits that no entry lies along. -/
theorem matchFindsThePrefix : Obligations.MatchFindsThePrefix := by
  refine ⟨fun cb d => ⟨fun e he h => cbMatch_of_entry he h, fun hno hopen => ?_, fun hno hdead => ?_⟩, fun d => ?_⟩
  · rw [cbMatch_of_no_entry hno, if_pos ((cb.couldBegin_iff _).mpr hopen)]
  · rw [cbMatch_of_no_entry hno, if_neg (by simpa [cb.couldBegin_iff] using hdead)]
  · rw [← dead_end_iff_zeros]
    rcases Config.codebook.entry_or_none d.remaining with ⟨e, he, hpfx⟩ | hno
    · rw [cbMatch_of_entry he hpfx]
      exact ⟨nofun, fun h => absurd hpfx (h.1 e he)⟩
    · rw [cbMatch_of_no_entry hno, and_iff_right hno]
      simp [Codebook.couldBegin_iff]

end Sys2Proof.Machine
end

section
/-! PROOFS. `DecodeAC` and the reverse lookup (R71, R73, R75), and the two commands that report them (R72, R74). -/

namespace Sys2Proof.Machine

/-! ## The code at the cursor (R71) -/

section DecodeAC
variable {cb : Codebook} {d : Dec}

theorem decodeAC_of_match_error {er : ErrCode} (h : cbMatch cb d = .error er) : decodeAC cb d = .error er := by
  rw [decodeAC, h]

/-- A table code is its entry's pair, with the sign of its last bit. -/
theorem decodeAC_normal {e : Entry} {run level : Nat} (he : e ∈ cb.entries) (hk : e.kind = .normal run level)
    {neg : Bool} (h : e.pfx ++ [neg] <+: d.remaining) :
    decodeAC cb d = .ok (.normal, acWord run level neg, d.advance (e.pfx.length + 1)) := by
  obtain ⟨rest, hrest⟩ := h
  rw [decodeAC_eq, acOfBits, ← hrest, List.append_assoc, cb.walk_of_entry he, hk]
  simp only [List.drop_left, List.singleton_append]

end DecodeAC

theorem decodeAC_eob {d : Dec} (h : Config.eobCode <+: d.remaining) :
    decodeAC Config.codebook d = .ok (.eob, Config.eodWord, d.advance 2) := by
  obtain ⟨rest, hrest⟩ := h
  rw [decodeAC_eq, ← hrest, acOfBits_eob]

theorem acOfBits_esc (w : Code) (rest : Bits) :
    acOfBits Config.codebook (Config.escPrefix ++ (wordBits w ++ rest)) =
      if w = Config.eodWord then .error .readCorruption else .ok (.esc, w, 22) := by
  have hlen : ¬ (wordBits w ++ rest).length < 16 := by simp
  have hword : BitVec.ofNat 16 (bitsToNat ((wordBits w ++ rest).take 16)) = w := headField_wordBits w rest
  rw [acOfBits, Config.codebook.walk_of_entry escEntry_mem]
  simp only [List.drop_left, if_neg hlen, hword, isEod, beq_iff_eq]
  rfl

/-- An escape is its sixteen payload bits as they stand, unless they are `EOD_WORD` (R71, R51 case 3). -/
theorem decodeAC_esc {w : Code} {d : Dec} (h : Config.escPrefix ++ wordBits w <+: d.remaining) :
    decodeAC Config.codebook d =
      if w = Config.eodWord then .error .readCorruption else .ok (.esc, w, d.advance 22) := by
  obtain ⟨rest, hrest⟩ := h
  rw [decodeAC_eq, ← hrest, List.append_assoc, acOfBits_esc]
  by_cases heod : w = Config.eodWord
  · rw [if_pos heod, if_pos heod]
  · rw [if_neg heod, if_neg heod]

/-! ## The reverse lookup (R73) -/

theorem mem_normalPairs {es : List Entry} {run level : Nat} :
    (run, level) ∈ normalPairs es ↔ ∃ e ∈ es, e.kind = .normal run level := by
  induction es with
  | nil => simp [normalPairs]
  | cons e es ih => cases hk : e.kind <;> simp [normalPairs, hk, ih, eq_comm]

theorem pairs_apart {es : List Entry} (h : pairsDistinct (normalPairs es) = true) :
    es.Pairwise (fun e e' => ∀ run level, e.kind = .normal run level → e'.kind ≠ .normal run level) := by
  induction es with
  | nil => exact .nil
  | cons e es ih =>
    cases hk : e.kind with
    | eob | esc =>
      simp only [normalPairs, hk] at h
      exact .cons (fun _ _ _ _ => by simp [hk]) (ih h)
    | normal run level =>
      simp only [normalPairs, hk, pairsDistinct, Bool.and_eq_true, Bool.not_eq_true', List.contains_eq_mem,
        decide_eq_false_iff_not, mem_normalPairs, not_exists, not_and] at h
      refine .cons (fun e' he' run' level' hk' => ?_) (ih h.2)
      cases hk.symm.trans hk'
      exact h.1 e' he'

/-- One entry has a given pair (R68 item 3). -/
theorem Codebook.pair_unique (cb : Codebook) {e e' : Entry} (he : e ∈ cb.entries) (he' : e' ∈ cb.entries)
    {run level : Nat} (hk : e.kind = .normal run level) (hk' : e'.kind = .normal run level) : e = e' := by
  have hsymm : Std.Symm
      (fun e e' : Entry => ∀ run level, e.kind = .normal run level → e'.kind ≠ .normal run level) :=
    ⟨fun _ _ h run level hk hk' => h run level hk' hk⟩
  by_contra hne
  exact (pairs_apart cb.isAdmitted.pairs_distinct).forall he he' hne run level hk hk'

theorem Codebook.level_range (cb : Codebook) {e : Entry} (he : e ∈ cb.entries) {run level : Nat}
    (hk : e.kind = .normal run level) : run ≤ 63 ∧ 1 ≤ level ∧ level ≤ 511 := by
  have h := cb.isAdmitted.pairs_inRange _ (mem_normalPairs.mpr ⟨e, he, hk⟩)
  simpa [pairInRange, and_assoc] using h

/-- The lookup hits exactly on the entry of the pair, and answers its bits and the sign. -/
theorem cbLookup_eq_some_iff {cb : Codebook} {run : BitVec 6} {level : BitVec 10} {b : Bits} :
    cbLookup cb run level = some b ↔
      ∃ e ∈ cb.entries, e.kind = .normal run.toNat (levelMagnitude level) ∧ b = e.pfx ++ [level.msb] := by
  constructor
  · intro h
    unfold cbLookup at h
    split at h
    · cases h
    · split at h
      · next e hf =>
        cases h
        exact ⟨e, List.mem_of_find?_eq_some hf, by simpa [isPair] using List.find?_some hf, rfl⟩
      · cases h
  · rintro ⟨e, he, hk, rfl⟩
    have hlevel : level ≠ 0 := by
      rintro rfl
      exact absurd (cb.level_range he hk).2.1 (by decide)
    have hfind : cb.entries.find? (isPair run.toNat (levelMagnitude level)) = some e := by
      cases hf : cb.entries.find? (isPair run.toNat (levelMagnitude level)) with
      | none => exact absurd (List.find?_eq_none.mp hf e he) (by simp [isPair, hk])
      | some e' =>
        have hk' : e'.kind = .normal run.toNat (levelMagnitude level) := by simpa [isPair] using List.find?_some hf
        rw [cb.pair_unique (List.mem_of_find?_eq_some hf) he hk' hk]
    rw [cbLookup, if_neg hlevel, hfind]

theorem cbLookup_eq_none {cb : Codebook} {run : BitVec 6} {level : BitVec 10}
    (h : ∀ e ∈ cb.entries, e.kind ≠ .normal run.toNat (levelMagnitude level)) : cbLookup cb run level = none := by
  rw [Option.eq_none_iff_forall_ne_some]
  intro b hb
  obtain ⟨e, he, hk, _⟩ := cbLookup_eq_some_iff.mp hb
  exact h e he hk

/-! ## Signed levels (R44, R73) -/

/-- A level is its magnitude with its sign, so a pair's word is the pair. -/
theorem acWord_of_level (run : BitVec 6) (level : BitVec 10) :
    acWord run.toNat (levelMagnitude level) level.msb = pack run level := by
  have hlevel : (if level.msb then -(BitVec.ofNat 10 (levelMagnitude level))
      else BitVec.ofNat 10 (levelMagnitude level)) = level := by
    have hlt := level.isLt
    apply BitVec.eq_of_toNat_eq
    rw [levelMagnitude, BitVec.toInt_eq_msb_cond]
    cases hsign : level.msb with
    | false => simp
    | true =>
      have hhigh := BitVec.msb_eq_true_iff_two_mul_ge.mp hsign
      simp only [if_true, BitVec.toNat_neg, BitVec.toNat_ofNat]
      omega
  rw [acWord, hlevel, BitVec.ofNat_toNat, BitVec.setWidth_eq]

/-- A magnitude of the table is read back from the level in either sign, and the sign from its top bit. -/
theorem level_of_magnitude {level : Nat} (h1 : 1 ≤ level) (h2 : level ≤ 511) (neg : Bool) :
    levelMagnitude (if neg then -(BitVec.ofNat 10 level) else BitVec.ofNat 10 level) = level ∧
      (if neg then -(BitVec.ofNat 10 level) else BitVec.ofNat 10 level).msb = neg := by
  have hsmall : (BitVec.ofNat 10 level).toNat = level := by rw [BitVec.toNat_ofNat]; omega
  cases neg with
  | false =>
    have hsign : (BitVec.ofNat 10 level).msb = false := BitVec.msb_eq_false_iff_two_mul_lt.mpr (by omega)
    simp only [Bool.false_eq_true, if_false, levelMagnitude, BitVec.toInt_eq_msb_cond, hsign, hsmall]
    exact ⟨rfl, trivial⟩
  | true =>
    have hneg : (-(BitVec.ofNat 10 level)).toNat = 1024 - level := by rw [BitVec.toNat_neg, hsmall]; omega
    have hsign : (-(BitVec.ofNat 10 level)).msb = true := BitVec.msb_eq_true_iff_two_mul_ge.mpr (by omega)
    simp only [if_true, levelMagnitude, BitVec.toInt_eq_msb_cond, hsign, hneg]
    exact ⟨by omega, trivial⟩

/-! ## Decode and lookup are inverses (R75) -/

/-- Settles O19: the lookup by the uniqueness of the pair, the decode by the match of the entry's bits. -/
theorem decodeInvertsLookup : Obligations.DecodeInvertsLookup := by
  refine ⟨fun e run level neg he hk => ?_, fun run level b d hlookup h => ?_, fun run level d _ heod h => ?_⟩
  · obtain ⟨hrun, h1, h2⟩ := Config.codebook.level_range he hk
    obtain ⟨hmagnitude, hsign⟩ := level_of_magnitude h1 h2 neg
    have hrun : (BitVec.ofNat 6 run).toNat = run := by rw [BitVec.toNat_ofNat]; omega
    exact cbLookup_eq_some_iff.mpr ⟨e, he, by rw [hrun, hmagnitude, hk], by rw [hsign]⟩
  · obtain ⟨e, he, hk, rfl⟩ := cbLookup_eq_some_iff.mp hlookup
    rw [decodeAC_normal he hk h, acWord_of_level]
    simp
  · rw [List.append_assoc, ← wordBits_pack] at h
    exact (decodeAC_esc h).trans (if_neg heod)

/-! ## `CB_DECODE` (R72) -/

section CbDecode
variable {s : State}

theorem exec_cbDecode_ok (hopen : s.dec.phase ≠ .fault) {k : AcKind} {w : Code} {d : Dec}
    (h : decodeAC Config.codebook s.dec = .ok (k, w, d)) :
    exec .cbDecode s = Claims.decNext s d (cbDecodeResponse k w) := by
  show s.runDec (Dec.cbDecode Config.codebook) = _
  rw [State.runDec_open hopen, Dec.cbDecode, h]
  rfl

theorem exec_cbDecode_error (hopen : s.dec.phase ≠ .fault) {er : ErrCode}
    (h : decodeAC Config.codebook s.dec = .error er) : exec .cbDecode s = Claims.decRaises s er er.status := by
  show s.runDec (Dec.cbDecode Config.codebook) = _
  rw [State.runDec_open hopen, Dec.cbDecode, h]
  rfl

/-- Under `CB_DECODE`, the code that `DecodeAC` reads is the element that stands there. -/
theorem exec_cbDecode_element (hport : s.underCbDecode = true) (hopen : s.dec.phase ≠ .fault) {k : AcKind} {w : Code}
    {n : Nat} (h : acOfBits Config.codebook s.dec.remaining = .ok (k, w, n)) :
    exec .cbDecode s = s.acElement n k w := by
  have hanswer := acOfBits_answers s.dec.remaining
  rw [h] at hanswer
  obtain ⟨hcode, hpos, hle⟩ := hanswer
  rw [exec_cbDecode_ok hopen (by rw [decodeAC_eq, h]), State.acElement, if_pos hport, State.runDec_open hopen,
    Dec.consumeAc_ok hcode hle hpos]
  rfl

end CbDecode

/-- Settles O20: each clause is an answer of `DecodeAC`. -/
theorem cbDecodeReportsTheCode : Obligations.CbDecodeReportsTheCode := by
  refine ⟨fun _ _ _ _ => rfl, fun s hopen => ⟨fun er h => exec_cbDecode_error hopen h, fun k w d h => ⟨?_, ?_⟩,
    fun e run level neg he hk h => ?_, fun h => ?_, fun w h => ⟨fun heod => ?_, fun heod => ?_⟩, fun h => ?_,
    fun h => ?_⟩⟩
  · have hanswer := decodeAC_answers s.dec
    rw [h] at hanswer
    obtain ⟨n, _, _, rfl⟩ := hanswer
    rfl
  · rw [exec_cbDecode_ok hopen h]
    cases k <;> rfl
  · obtain ⟨_, h1, h2⟩ := Config.codebook.level_range he hk
    rw [exec_cbDecode_ok hopen (decodeAC_normal he hk h), acWord_eq_rowWord h1 h2]
    rfl
  · exact exec_cbDecode_ok hopen (decodeAC_eob h)
  · exact exec_cbDecode_ok hopen ((decodeAC_esc h).trans (if_neg heod))
  · exact exec_cbDecode_error hopen ((decodeAC_esc h).trans (if_pos heod))
  · exact exec_cbDecode_error hopen (decodeAC_of_match_error ((matchFindsThePrefix.2 s.dec).mpr h))
  · have hno : ∀ e ∈ Config.codebook.entries, ¬ e.pfx <+: s.dec.remaining := fun e he hpfx => by
      have hpos := (Config.codebook.isAdmitted.pfx_length e he).1
      simp [List.prefix_nil.mp (h ▸ hpfx)] at hpos
    refine exec_cbDecode_error hopen (decodeAC_of_match_error ?_)
    rw [cbMatch_of_no_entry hno, h, if_pos Config.codebook.couldBegin_nil]

/-- Settles O9: the decoder and `DecodeAC` read the same code, or reject the same bits. -/
theorem cbDecodeRunsTheElementAtTheCursor : Obligations.CbDecodeRunsTheElementAtTheCursor := by
  intro s hport hopen
  rw [decodeStream]
  have hagree := decodeAc_agrees s.dec.remaining
  generalize decodeAc s.dec.remaining = decoded at hagree ⊢
  generalize hbits : acOfBits Config.codebook s.dec.remaining = read at hagree
  cases hagree with
  | code h => exact (exec_cbDecode_element hport hopen hbits).trans (h s).symm
  | error e =>
    rw [exec_cbDecode_error hopen (by rw [decodeAC_eq, hbits])]
    cases e <;> rfl

/-! ## `CB_LOOKUP` (R74) -/

theorem exec_cbLookup_eq {s : State} (hopen : s.enc.phase ≠ .fault) (run : BitVec 6) (level : BitVec 10) :
    exec (.cbLookup run level) s =
      Claims.encNext s s.enc (cbLookupResponse (cbLookup Config.codebook run level)) := by
  show s.runEnc (fun e => .ok (cbLookupResponse (cbLookup Config.codebook run level), e)) = _
  rw [State.runEnc_open hopen]
  rfl

/-- Settles O21: a hit is an entry of the pair. -/
theorem cbLookupReportsTheCode : Obligations.CbLookupReportsTheCode := by
  refine ⟨fun _ _ _ _ => rfl, fun s run level hopen => ⟨fun e he hk => ?_, fun hno => ?_⟩⟩
  · have hcode : bitsToNat (e.pfx ++ [level.msb]) = 2 * bitsToNat e.pfx + if level.toInt < 0 then 1 else 0 := by
      rw [bitsToNat_append, BitVec.msb_eq_toInt]
      by_cases h : level.toInt < 0 <;> simp [h, bitsToNat_cons, Nat.mul_comm]
    rw [exec_cbLookup_eq hopen, cbLookup_eq_some_iff.mpr ⟨e, he, hk, rfl⟩, cbLookupResponse, hcode, List.length_append]
    rfl
  · rw [exec_cbLookup_eq hopen, cbLookup_eq_none hno]
    rfl

end Sys2Proof.Machine
end

section
/-! PROOFS. The decode engine phase by phase: what `DEC_START`, `DEC_STEP` and `DEC_SKIP_PADDING` do in each. -/

namespace Sys2Proof.Machine

/-! ## `DEC_START` (R76) -/

section Start
variable {d : Dec} {qmode : QMode} {qscale : BitVec 6} {mbtotal : BitVec 16}

theorem Dec.start_without_mb (h : mbtotal = 0) : Dec.start qmode qscale mbtotal d = .error .programmingFault :=
  if_pos h

theorem Dec.start_global_without_qscale (hmode : qmode = .global) (hq : qscale = 0) :
    Dec.start qmode qscale mbtotal d = .error .programmingFault := by
  by_cases hmb : mbtotal = 0
  · exact Dec.start_without_mb hmb
  · rw [Dec.start, if_neg hmb, if_pos ⟨hmode, hq⟩]

theorem Dec.start_begins (hmb : mbtotal ≠ 0) (hq : qmode = .perBlock ∨ qscale ≠ 0) :
    Dec.start qmode qscale mbtotal d =
      .ok (Claims.ok0,
        { d with
          qmode := qmode, qscale := if qmode = .global then qscale else 0, mbtotal := mbtotal, mb := 0, blk := 0,
          codecount := 0, esczero := 0, padwarn := false, paddone := false, lastWord := 0, lastValid := false,
          out := [], phase := .blockStart }) := by
  have hscale : ¬ (qmode = .global ∧ qscale = 0) := fun ⟨hmode, h0⟩ =>
    hq.elim (fun hper => by cases hmode.symm.trans hper) (fun hne => hne h0)
  rw [Dec.start, if_neg hmb, if_neg hscale]
  rfl

end Start

theorem exec_decStart_eq {s : State} (hopen : s.dec.phase ≠ .fault) (qmode : QMode) (qscale : BitVec 6)
    (mbtotal : BitVec 16) :
    exec (.decStart qmode qscale mbtotal) s = .next (s.finishDec (Dec.start qmode qscale mbtotal s.dec)) :=
  State.runDec_open hopen _

/-- Settles O29. -/
theorem decStartBeginsAFrame : Obligations.DecStartBeginsAFrame := by
  refine ⟨fun _ _ _ _ => rfl, fun s qmode qscale mbtotal hopen => ?_⟩
  rw [exec_decStart_eq hopen]
  refine ⟨fun hmb => ?_, fun hmode hq => ?_, fun hmb hq => ?_⟩
  · rw [Dec.start_without_mb hmb]
    rfl
  · rw [Dec.start_global_without_qscale hmode hq]
    rfl
  · rw [Dec.start_begins hmb hq]
    rfl

/-! ## `DEC_STEP` between the elements (R77, R80) -/

section Step
variable {d : Dec}

theorem Dec.step_idle (h : d.phase = .idle) : d.step = .error .programmingFault := by
  simp only [Dec.step, Dec.stepWith, h]

theorem Dec.step_fault (h : d.phase = .fault) : d.step = .error d.err := by
  simp only [Dec.step, Dec.stepWith, h]

theorem Dec.step_blockStart (h : d.phase = .blockStart) : d.step = d.dcAction := Dec.stepWith_blockStart h ..

theorem Dec.step_readingAc (h : d.phase = .readingAc) : d.step = d.acAction := Dec.stepWith_readingAc h ..

theorem Dec.step_blockDone (h : d.phase = .blockDone) : d.step = .ok (Claims.ok2 0 0, d.advanceBlock) := by
  simp only [Dec.step, Dec.stepWith, h]
  rfl

theorem Dec.step_frameDone (h : d.phase = .frameDone) : d.step = .ok (⟨.done, some 0, some 0, none⟩, d) := by
  simp only [Dec.step, Dec.stepWith, h]

theorem Dec.advanceBlock_of_ne_five (h : d.blk ≠ 5) :
    d.advanceBlock = { d with blk := d.blk + 1, phase := .blockStart } := if_neg h

/-- Past the sixth block the macroblock count advances, and decides between the frame's end and the next block. -/
theorem Dec.advanceBlock_of_five (h : d.blk = 5) :
    d.advanceBlock =
      { d with blk := 0, mb := d.mb + 1, phase := if d.mb + 1 = d.mbtotal then .frameDone else .blockStart } := if_pos h

theorem Dec.advanceBlock_phase (d : Dec) :
    d.advanceBlock.phase = .blockStart ∨ d.advanceBlock.phase = .frameDone := by
  by_cases h : d.blk = 5
  · rw [Dec.advanceBlock_of_five h]
    dsimp only
    split
    · exact .inr rfl
    · exact .inl rfl
  · rw [Dec.advanceBlock_of_ne_five h]
    exact .inl rfl

end Step

theorem exec_decStep_eq {s : State} (hopen : s.dec.phase ≠ .fault) :
    exec .decStep s = .next (s.finishDec s.dec.step) :=
  State.runDec_open hopen _

theorem exec_decStep_blockDone {s : State} (hphase : s.dec.phase = .blockDone) :
    exec .decStep s = Claims.decNext s s.dec.advanceBlock (Claims.ok2 0 0) := by
  rw [exec_decStep_eq (by simp [hphase]), Dec.step_blockDone hphase]
  rfl

/-- Settles O30. -/
theorem decStepBetweenElements : Obligations.DecStepBetweenElements := by
  refine fun s => ⟨fun hphase => ?_, fun hphase hblk => ?_, fun hphase hblk hmb => ?_, fun hphase hblk hmb => ?_,
    fun hphase => ?_⟩
  · exact exec_decStep_error (by simp [hphase]) (Dec.step_idle hphase)
  · rw [exec_decStep_blockDone hphase, Dec.advanceBlock_of_ne_five hblk]
  · rw [exec_decStep_blockDone hphase, Dec.advanceBlock_of_five hblk, if_neg hmb]
  · rw [exec_decStep_blockDone hphase, Dec.advanceBlock_of_five hblk, if_pos hmb]
  · rw [exec_decStep_eq (by simp [hphase]), Dec.step_frameDone hphase]
    rfl

/-! ## `DEC_STEP` at a block's start (R78) -/

/-- `w` is the code word of the DC field at the cursor, `n` bits long in the frame's mode (R42, R43). -/
def Dec.DcField (d : Dec) (n : Nat) (w : Code) : Prop :=
  (d.qmode = .global ∧ n = 10 ∧
      w = pack d.qscale (BitVec.ofNat 10 (bitsToNat (d.streamBits d.bitpos.toNat 10)))) ∨
    (d.qmode = .perBlock ∧ n = 16 ∧ w = BitVec.ofNat 16 (bitsToNat (d.streamBits d.bitpos.toNat 16)))

theorem Dec.dcAction_of_dcField {d : Dec} {n : Nat} {w : Code} (h : d.DcField n w) :
    d.dcAction =
      match d.consume n with
      | .error e => .error e
      | .ok d' => d'.takeDc w := by
  rcases h with ⟨hmode, rfl, rfl⟩ | ⟨hmode, rfl, rfl⟩
  · simp only [Dec.dcAction, Dec.readDc, hmode, Dec.readBits, Dec.consume]
    cases d.short 10 <;> rfl
  · simp only [Dec.dcAction, Dec.readDc, hmode, Dec.readBits, Dec.consume]
    cases d.short 16 <;> rfl

/-- At a block's start `DEC_STEP` performs the DC element that stands at the cursor. -/
theorem exec_decStep_eq_dcElement {s : State} {n : Nat} {w : Code} (hphase : s.dec.phase = .blockStart)
    (h : s.dec.DcField n w) : exec .decStep s = s.dcElement s.dec.qmode n w := by
  rw [exec_decStep_blockStart hphase, State.dcElement, State.stepElement_placed (.inl hphase) (by simp [hphase])]
  exact State.runDec_congr fun _ => Dec.dcAction_of_dcField h

/-- Settles O31: the three answers of a DC element in its place. -/
theorem decStepReadsTheDc : Obligations.DecStepReadsTheDc := by
  intro s n w hphase hfield
  rw [exec_decStep_eq_dcElement hphase hfield]
  refine ⟨fun hmissing => State.dcElement_ends hphase rfl hmissing w, fun hthere heod => ?_,
    fun hthere heod => State.dcElement_emits hphase rfl hthere heod⟩
  rw [heod]
  exact State.dcElement_collides hphase rfl hthere

/-! ## `DEC_STEP` after the DC (R79) -/

theorem AcCode.eq_eob_iff {k : AcKind} {w : Code} {n : Nat} (h : AcCode k w n) : k = .eob ↔ w = Config.eodWord := by
  have hcode := h.isEod_eq
  rw [isEod] at hcode
  rw [← beq_iff_eq, ← hcode, beq_iff_eq]

/-- `DecodeAC` raises what the decoder rejects: a stream that ends, or bits that are no code (R69, R71). -/
theorem decodeAC_error_cases {d : Dec} {e : ErrCode} (h : decodeAC Config.codebook d = .error e) :
    e = .endOfStream ∨ e = .readCorruption := by
  have hagree := decodeAc_agrees d.remaining
  rw [decodeAC_eq] at h
  generalize decodeAc d.remaining = decoded at hagree
  generalize acOfBits Config.codebook d.remaining = read at h hagree
  cases hagree with
  | code => cases h
  | error er =>
    cases h
    cases er with
    | truncated => exact .inl rfl
    | _ => exact .inr rfl

theorem s10_eq_zero_iff (w : Code) : s10 w = 0 ↔ w.extractLsb' 0 10 = 0#10 := BitVec.toInt_inj (y := 0#10)

/-- The unit after a code of `n` bits is read and its word taken (R79). -/
theorem Dec.takeAc_advance {d : Dec} (hphase : d.phase = .readingAc) (n : Nat) (k : AcKind) (w : Code) :
    ((d.advance n).takeAc k w).2 =
      { Claims.emitAfter d n w with
        esczero := if k = .esc ∧ w.extractLsb' 0 10 = 0#10 then d.esczero + 1 else d.esczero
        phase := if k = .eob then .blockDone else .readingAc } := by
  rw [Dec.takeAc_snd (d := d.advance n) hphase]
  simp only [Dec.logEscZero, Bool.and_eq_true, beq_iff_eq, s10_eq_zero_iff]
  split <;> rfl

/-- Settles O32. -/
theorem decStepReadsAnAcCode : Obligations.DecStepReadsAnAcCode := by
  intro s hphase
  have hopen : s.dec.phase ≠ .fault := by simp [hphase]
  refine ⟨fun e h => ⟨decodeAC_error_cases h, exec_decStep_error hopen ?_⟩, fun k w d h => ?_⟩
  · rw [Dec.step_readingAc hphase, Dec.acAction, h]
  · have hanswer := decodeAC_answers s.dec
    rw [h] at hanswer
    obtain ⟨n, hcode, hthere, rfl⟩ := hanswer
    refine ⟨hcode.eq_eob_iff, n, hthere, rfl, ?_⟩
    rw [exec_decStep_eq hopen, Dec.step_readingAc hphase, Dec.acAction, h, ← Dec.takeAc_advance hphase]
    rfl

/-! ## `DEC_SKIP_PADDING` (R83) -/

theorem exec_decSkipPadding_eq {s : State} (hopen : s.dec.phase ≠ .fault) :
    exec .decSkipPadding s = .next (s.finishDec (Dec.skipPaddingWith (fun d => d.readBits 11) s.dec)) :=
  State.runDec_open hopen _

/-- The warning is set by any 11 bits but the trailer's. -/
theorem Dec.setPadding_eq (d : Dec) (v : Nat) :
    d.setPadding v = { d with padwarn := decide (v ≠ 0x3FE), paddone := true } := by
  have hwarn : (v != 0x3FE) = decide (v ≠ 0x3FE) := by by_cases h : v = 0x3FE <;> simp [h]
  rw [← hwarn]
  rfl

/-- Settles O35. -/
theorem skipPaddingOnlyWarns : Obligations.SkipPaddingOnlyWarns := by
  refine ⟨fun _ _ _ _ => rfl, fun s hopen => ?_⟩
  rw [exec_decSkipPadding_eq hopen]
  refine ⟨fun h => ?_, fun hphase hfirst hmissing => ?_, fun hphase hfirst hthere v hv => ?_⟩
  · rw [Dec.skipPaddingWith_refused h]
    rfl
  · rw [Dec.skipPaddingWith_error hphase hfirst (Dec.readBits_error (Nat.lt_of_not_le hmissing))]
    rfl
  · rw [Dec.skipPaddingWith_ok hphase hfirst (Dec.readBits_ok hthere), ← hv, Dec.setPadding_eq]
    by_cases hpad : v = 0x3FE
    · rw [if_pos hpad, hpad]
      rfl
    · rw [if_neg hpad]
      simp only [hpad, ne_eq, not_false_eq_true, decide_true]
      rfl

end Sys2Proof.Machine
end

section
/-! PROOFS. The run of `DEC_SKIP_MB`: each action uses up a budget of bits, so that the run ends before its bound, and
no instruction faults. -/

namespace Sys2Proof.Machine

/-! ## The bits of an action (R82) -/

theorem codebook_two_le_pfx {e : Entry} (he : e ∈ Config.codebook.entries) : 2 ≤ e.pfx.length := by
  have hall : ∀ e ∈ strv2Table, 2 ≤ e.pfx.length := by decide +kernel
  exact hall e he

/-- The shortest AC code has two bits (R46, R49). -/
theorem two_le_of_acOfBits {bs : Bits} {k : AcKind} {w : Code} {n : Nat}
    (h : acOfBits Config.codebook bs = .ok (k, w, n)) : 2 ≤ n := by
  have hwalk := walkBits_answers Config.codebook Config.codebook.maxLen [] bs
  unfold acOfBits at h
  generalize walkBits Config.codebook Config.codebook.maxLen [] bs = read at h hwalk
  cases read with
  | error e => cases h
  | ok kn =>
    obtain ⟨kind, m⟩ := kn
    obtain ⟨e, he, _, hlen⟩ := hwalk
    have htwo := codebook_two_le_pfx he
    rw [hlen, List.length_nil, Nat.zero_add] at htwo
    cases kind with
    | eob => cases h; exact htwo
    | normal run level =>
      dsimp only at h
      split at h
      · cases h
      · cases h; exact Nat.le_add_right_of_le htwo
    | esc =>
      dsimp only at h
      split at h
      · cases h
      · split at h
        · cases h
        · cases h; exact Nat.le_add_right_of_le htwo

section StepOk
variable {d d' : Dec} {r : Response}

theorem Dec.step_readingAc_bitpos (hphase : d.phase = .readingAc) (h : d.step = .ok (r, d')) :
    d.bitpos.toNat + 2 ≤ d'.bitpos.toNat := by
  have hanswer := acOfBits_answers d.remaining
  rw [Dec.step_readingAc hphase, Dec.acAction, decodeAC_eq] at h
  cases hcode : acOfBits Config.codebook d.remaining with
  | error e => rw [hcode] at h; cases h
  | ok a =>
    obtain ⟨k, w, n⟩ := a
    rw [hcode] at h hanswer
    have hpos : d'.bitpos = (d.advance n).bitpos := by cases h; exact Dec.takeAc_bitpos ..
    have htwo := two_le_of_acOfBits hcode
    obtain ⟨_, _, (hle : n ≤ d.remaining.length)⟩ := hanswer
    rw [Dec.remaining_length] at hle
    rw [hpos, Dec.advance_toNat (by omega)]
    omega

theorem Dec.exists_dcField (d : Dec) : ∃ w, d.DcField (if d.qmode = .global then 10 else 16) w := by
  cases hmode : d.qmode with
  | global => exact ⟨_, .inl ⟨hmode, rfl, rfl⟩⟩
  | perBlock => exact ⟨_, .inr ⟨hmode, rfl, rfl⟩⟩

theorem Dec.step_blockStart_bitpos (hphase : d.phase = .blockStart) (h : d.step = .ok (r, d')) :
    d'.bitpos.toNat = d.bitpos.toNat + if d.qmode = .global then 10 else 16 := by
  obtain ⟨w, hfield⟩ := d.exists_dcField
  rw [Dec.step_blockStart hphase, Dec.dcAction_of_dcField hfield] at h
  generalize (if d.qmode = .global then 10 else 16) = n at h ⊢
  rcases d.consume_cases n with ⟨_, hc⟩ | ⟨hthere, hc⟩ <;> rw [hc] at h
  · cases h
  · dsimp only [Dec.takeDc] at h
    split at h
    · cases h
    · cases h
      exact Dec.advance_toNat hthere

theorem Dec.step_blockDone_bitpos (hphase : d.phase = .blockDone) (h : d.step = .ok (r, d')) :
    d'.bitpos = d.bitpos ∧ (d'.phase = .blockStart ∨ d'.phase = .frameDone) := by
  rw [Dec.step_blockDone hphase] at h
  cases h
  obtain ⟨_, _, hpos⟩ := d.advanceBlock_frame
  exact ⟨hpos, d.advanceBlock_phase⟩

end StepOk

/-! ## The budget of a run -/

/-- A step that moves the cursor leaves it within the stream, wherever the cursor stood (R57). -/
theorem Dec.EngineStep.within_of_moved {b : Bool} {d d' : Dec} (h : Dec.EngineStep b d d')
    (hmoved : d.bitpos.toNat < d'.bitpos.toNat) : d'.bitpos.toNat ≤ d.nbits.toNat := by
  cases h with
  | dc _ hn => exact (Dec.advance_toNat hn).trans_le hn
  | ac _ hn =>
    rw [Dec.takeAc_bitpos, Dec.advance_toNat hn]
    exact hn
  | block =>
    obtain ⟨_, _, hpos⟩ := d.advanceBlock_frame
    rw [hpos] at hmoved
    exact absurd hmoved (Nat.lt_irrefl _)
  | frame => exact absurd hmoved (Nat.lt_irrefl _)

/-- How many actions are left at most before the end of the frame or a raise: one for each bit, and one for the advance
after a closed block, which reads none. It bounds the run in every state; the macroblock count is not needed. -/
def Dec.budget (d : Dec) : Nat :=
  d.nbits.toNat - d.bitpos.toNat + if d.phase = .blockDone then 1 else 0

theorem Dec.budget_le (d : Dec) : d.budget ≤ d.nbits.toNat + 1 := by
  unfold Dec.budget
  split <;> omega

/-- Every action before the frame's end uses up budget: a code has at least two bits, of which the end-of-block leaves
one for the advance that follows it. -/
theorem Dec.budget_step_lt {d d' : Dec} {r : Response} (hphase : d.phase ≠ .frameDone) (h : d.step = .ok (r, d')) :
    d'.budget < d.budget := by
  have hopen : d.phase ≠ .fault := fun hfault => by rw [Dec.step_fault hfault] at h; cases h
  have hstep := Dec.step_answers hopen
  rw [h] at hstep
  have hnbits : d'.nbits = d.nbits := hstep.cursorForward.nbits
  have hwithin := hstep.within_of_moved
  dsimp only at hwithin
  unfold Dec.budget
  rw [hnbits]
  cases hp : d.phase with
  | idle => rw [Dec.step_idle hp] at h; cases h
  | fault => exact absurd hp hopen
  | frameDone => exact absurd hp hphase
  | readingAc =>
    have hpos := Dec.step_readingAc_bitpos hp h
    have hend := hwithin (by omega)
    simp only [reduceCtorEq, if_false]
    split <;> omega
  | blockStart =>
    have hpos := Dec.step_blockStart_bitpos hp h
    have hten : 10 ≤ if d.qmode = .global then 10 else 16 := by split <;> decide
    have hend := hwithin (by omega)
    simp only [reduceCtorEq, if_false]
    split <;> omega
  | blockDone =>
    obtain ⟨hpos, hnext⟩ := Dec.step_blockDone_bitpos hp h
    have hplain : d'.phase ≠ .blockDone := by rcases hnext with hnext | hnext <;> simp [hnext]
    rw [hpos, if_neg hplain, if_pos rfl]
    omega

/-! ## The engine's steps, one after another (R81) -/

theorem engineAfter_succ_iff {n : Nat} {d d' : Dec} :
    Claims.engineAfter (n + 1) d = some d' ↔
      d.phase ≠ .frameDone ∧ ∃ r d1, d.step = .ok (r, d1) ∧ Claims.engineAfter n d1 = some d' := by
  rw [Claims.engineAfter]
  by_cases hphase : d.phase = .frameDone
  · simp [hphase]
  · cases hstep : d.step with
    | error e => simp [hphase]
    | ok p => simp [hphase, Prod.ext_iff]

/-- Each of the steps has used up budget. -/
theorem engineAfter_budget {n : Nat} {d d' : Dec} (h : Claims.engineAfter n d = some d') :
    n + d'.budget ≤ d.budget := by
  induction n generalizing d with
  | zero => cases h; omega
  | succ n ih =>
    obtain ⟨hphase, r, d1, hstep, hrest⟩ := engineAfter_succ_iff.mp h
    have hlt := Dec.budget_step_lt hphase hstep
    have hle := ih hrest
    omega

theorem Dec.phase_ne_frameDone_of_error {d : Dec} {e : ErrCode} (h : d.step = .error e) : d.phase ≠ .frameDone :=
  fun hphase => by rw [Dec.step_frameDone hphase] at h; cases h

theorem Dec.skipLoop_frameDone {d : Dec} (fuel : Nat) (h : d.phase = .frameDone) :
    Dec.skipLoop fuel d = .finished d := by
  cases fuel with
  | zero => exact if_pos h
  | succ fuel => exact if_pos h

theorem Dec.skipLoop_error {d : Dec} {e : ErrCode} (fuel : Nat) (h : d.step = .error e) :
    Dec.skipLoop (fuel + 1) d = .raised e d := by
  rw [Dec.skipLoop, if_neg (Dec.phase_ne_frameDone_of_error h), h]

theorem Dec.skipLoop_ok {d d' : Dec} {r : Response} (fuel : Nat) (hphase : d.phase ≠ .frameDone)
    (h : d.step = .ok (r, d')) : Dec.skipLoop (fuel + 1) d = Dec.skipLoop fuel d' := by
  rw [Dec.skipLoop, if_neg hphase, h]

/-- The loop runs through the engine's steps. -/
theorem Dec.skipLoop_engineAfter {n : Nat} {d d' : Dec} (fuel : Nat) (h : Claims.engineAfter n d = some d') :
    Dec.skipLoop (n + fuel) d = Dec.skipLoop fuel d' := by
  induction n generalizing d with
  | zero => cases h; rw [Nat.zero_add]
  | succ n ih =>
    obtain ⟨hphase, r, d1, hstep, hrest⟩ := engineAfter_succ_iff.mp h
    rw [Nat.add_right_comm, Dec.skipLoop_ok _ hphase hstep, ih hrest]

/-- From every state, reached by a run or not, the engine comes to the frame's end or to a step that raises. -/
theorem exists_engineAfter_end (d : Dec) :
    ∃ n d', Claims.engineAfter n d = some d' ∧ (d'.phase = .frameDone ∨ ∃ e, d'.step = .error e) := by
  induction hb : d.budget using Nat.strong_induction_on generalizing d with
  | _ b ih =>
    by_cases hphase : d.phase = .frameDone
    · exact ⟨0, d, rfl, .inl hphase⟩
    · cases hstep : d.step with
      | error e => exact ⟨0, d, rfl, .inr ⟨e, hstep⟩⟩
      | ok p =>
        obtain ⟨r, d1⟩ := p
        obtain ⟨n, d', hrest, hend⟩ := ih d1.budget (hb ▸ Dec.budget_step_lt hphase hstep) d1 rfl
        exact ⟨n + 1, d', engineAfter_succ_iff.mpr ⟨hphase, r, d1, hstep, hrest⟩, hend⟩

/-! ## `DEC_SKIP_MB` (R81, R82) -/

/-- The bound of the loop is past every number of steps of the engine. -/
theorem skipBound_eq_of_engineAfter {n : Nat} {d d' : Dec} (h : Claims.engineAfter n d = some d') :
    ∃ fuel, d.skipBound = n + (fuel + 1) := by
  have hsteps := engineAfter_budget h
  have hbudget := d.budget_le
  exact ⟨d.skipBound - n - 1, by unfold Dec.skipBound; omega⟩

theorem Dec.skipLoop_skipBound_finished {n : Nat} {d d' : Dec} (h : Claims.engineAfter n d = some d')
    (hend : d'.phase = .frameDone) : Dec.skipLoop d.skipBound d = .finished d' := by
  obtain ⟨fuel, hbound⟩ := skipBound_eq_of_engineAfter h
  rw [hbound, Dec.skipLoop_engineAfter _ h, Dec.skipLoop_frameDone _ hend]

theorem Dec.skipLoop_skipBound_raised {n : Nat} {d d' : Dec} {e : ErrCode} (h : Claims.engineAfter n d = some d')
    (hend : d'.step = .error e) : Dec.skipLoop d.skipBound d = .raised e d' := by
  obtain ⟨fuel, hbound⟩ := skipBound_eq_of_engineAfter h
  rw [hbound, Dec.skipLoop_engineAfter _ h, Dec.skipLoop_error _ hend]

theorem exec_decSkipMb_idle {s : State} (h : s.dec.phase = .idle) :
    exec .decSkipMb s = Claims.decRaises s .programmingFault .programmingFault := by
  show execDecSkipMb s = _
  rw [execDecSkipMb, if_neg (by simp [h]), if_pos h]
  rfl

section Started
variable {s : State}

theorem exec_decSkipMb_started (h : s.dec.started) :
    exec .decSkipMb s = s.finishSkip (Dec.skipLoop s.dec.skipBound s.dec) := by
  obtain ⟨hopen, hbegun⟩ : s.dec.phase ≠ .fault ∧ s.dec.phase ≠ .idle := by
    rcases h with h | h | h | h <;> simp [h]
  show execDecSkipMb s = _
  rw [execDecSkipMb, if_neg hopen, if_neg hbegun]

/-- A run of steps that reaches the frame's end is `DEC_SKIP_MB`'s. -/
theorem exec_decSkipMb_finished {n : Nat} {d : Dec} (hs : s.dec.started) (h : Claims.engineAfter n s.dec = some d)
    (hend : d.phase = .frameDone) :
    exec .decSkipMb s =
      Claims.decNext s d (Claims.ok2 d.bitpos (BitVec.ofNat 32 ((d.bitpos.toNat + 15) / 16))) := by
  rw [exec_decSkipMb_started hs, Dec.skipLoop_skipBound_finished h hend]
  rfl

/-- Where a step raises, the steps before it keep their effects (R104). -/
theorem exec_decSkipMb_raised {n : Nat} {d : Dec} {e : ErrCode} (hs : s.dec.started)
    (h : Claims.engineAfter n s.dec = some d) (hend : d.step = .error e) :
    exec .decSkipMb s = Claims.decNext s { d with err := e, phase := .fault } (Claims.bare e.status) := by
  rw [exec_decSkipMb_started hs, Dec.skipLoop_skipBound_raised h hend]
  rfl

end Started

/-- A started frame is at its end, or has a macroblock left (R13). -/
theorem Dec.Inv.frameDone_or_mbtotal_pos {d : Dec} (h : d.Inv) (hs : d.started) :
    d.phase = .frameDone ∨ 1 ≤ d.mbtotal.toNat := by
  rcases hs with hp | hp | hp | hp
  · exact .inr (Nat.one_le_of_lt (h.mb_lt (.inl hp)))
  · exact .inr (Nat.one_le_of_lt (h.mb_lt (.inr (.inl hp))))
  · exact .inr (Nat.one_le_of_lt (h.mb_lt (.inr (.inr hp))))
  · exact .inl hp

/-- From a started frame the run ends within R82's bound, the raising action included. -/
theorem exists_engineAfter_within {d : Dec} (hinv : d.Inv) (hs : d.started) :
    ∃ n d', Claims.engineAfter n d = some d' ∧
      ((d'.phase = .frameDone ∧ n ≤ d.nbits.toNat + 6 * d.mbtotal.toNat) ∨
        ∃ e, d'.step = .error e ∧ n + 1 ≤ d.nbits.toNat + 6 * d.mbtotal.toNat) := by
  rcases hinv.frameDone_or_mbtotal_pos hs with hphase | hmb
  · exact ⟨0, d, rfl, .inl ⟨hphase, Nat.zero_le _⟩⟩
  · obtain ⟨n, d', h, hend⟩ := exists_engineAfter_end d
    have hsteps := engineAfter_budget h
    have hbudget := d.budget_le
    refine ⟨n, d', h, ?_⟩
    rcases hend with hphase | ⟨e, hstep⟩
    · exact .inl ⟨hphase, by omega⟩
    · exact .inr ⟨e, hstep, by omega⟩

/-- Settles O33: the loop is the engine's run, and the run ends by its budget. -/
theorem skipMbIsTheEngineRunToItsEnd : Obligations.SkipMbIsTheEngineRunToItsEnd := by
  refine ⟨fun _ _ _ _ => rfl, fun s => exec_decSkipMb_idle, fun s hinv hs => ?_,
    fun s n d _ hs h hend => exec_decSkipMb_finished hs h hend, fun d d' r h => ⟨fun hphase => ?_, fun hphase => ?_,
    fun hphase => ?_⟩⟩
  · obtain ⟨n, d, h, hend⟩ := exists_engineAfter_within hinv hs
    refine ⟨n, d, h, hend.imp (fun ⟨hphase, hn⟩ => ?_) fun ⟨e, hstep, hn⟩ => ?_⟩
    · exact ⟨hphase, hn, exec_decSkipMb_finished hs h hphase⟩
    · exact ⟨e, hstep, hn, exec_decSkipMb_raised hs h hstep⟩
  · exact Dec.step_readingAc_bitpos hphase h
  · exact Dec.step_blockStart_bitpos hphase h
  · exact Dec.step_blockDone_bitpos hphase h

/-! ## No instruction faults (R82, R114) -/

theorem noMachineFault_of_next {o : Host.Outcome State Fault Refusal} (h : ∃ t, o = .next t) : noMachineFault o := by
  obtain ⟨t, rfl⟩ := h
  exact nofun

theorem State.runDec_noFault (s : State) (act : Dec → Except ErrCode (Response × Dec)) :
    noMachineFault (s.runDec act) := noMachineFault_of_next (s.runDec_next act)

theorem State.runEnc_noFault (s : State) (act : Enc → Except ErrCode (Response × Enc)) :
    noMachineFault (s.runEnc act) := noMachineFault_of_next (s.runEnc_next act)

theorem State.stepElement_noFault (s : State) (reads : Bool) (act : Dec → Except ErrCode (Response × Dec)) :
    noMachineFault (s.stepElement reads act) := by
  unfold State.stepElement
  split
  · exact nofun
  · exact s.runDec_noFault _

theorem State.acElement_noFault (s : State) (len : Nat) (k : AcKind) (w : Code) :
    noMachineFault (s.acElement len k w) := by
  unfold State.acElement
  split
  · exact s.runDec_noFault _
  · exact s.stepElement_noFault _ _

theorem State.regReadInFault_noFault (s : State) (v : Option Word32) : noMachineFault (s.regReadInFault v) := by
  cases v <;> exact nofun

theorem execDecRegRead_noFault (n : BitVec 8) (s : State) : noMachineFault (execDecRegRead n s) := by
  unfold execDecRegRead
  split
  · exact s.regReadInFault_noFault _
  · exact s.runDec_noFault _

theorem execEncRegRead_noFault (n : BitVec 8) (s : State) : noMachineFault (execEncRegRead n s) := by
  unfold execEncRegRead
  split
  · exact s.regReadInFault_noFault _
  · exact s.runEnc_noFault _

/-- The loop of `DEC_SKIP_MB` ends before its bound is used up, in every state. -/
theorem execDecSkipMb_noFault (s : State) : noMachineFault (execDecSkipMb s) := by
  unfold execDecSkipMb
  split
  · exact nofun
  · split
    · exact nofun
    · obtain ⟨n, d, h, hphase | ⟨e, hstep⟩⟩ := exists_engineAfter_end s.dec
      · rw [Dec.skipLoop_skipBound_finished h hphase]
        exact nofun
      · rw [Dec.skipLoop_skipBound_raised h hstep]
        exact nofun

/-- Settles O34: only `DEC_SKIP_MB` has a fault in its meaning, and never answers it. -/
theorem noInstructionFaults : Obligations.NoInstructionFaults := by
  intro i s
  by_cases hac : i.position = .ac
  · obtain ⟨len, k, w, hexec⟩ := exec_eq_acElement hac
    rw [hexec]
    exact s.acElement_noFault len k w
  · cases i with
    | decSkipMb => exact execDecSkipMb_noFault s
    | dcGlobal | dcPerBlock => exact s.stepElement_noFault _ _
    | decRegRead n => exact execDecRegRead_noFault n s
    | encRegRead n => exact execEncRegRead_noFault n s
    | decReset | brInit | encReset | bwInit | encStart => exact nofun
    | brPos => exact (s.runDec_noFault _ : noMachineFault (execBrPos s))
    | trailer | brReadU | brReadS | cbDecode | hdrParse | decStart | decStep | decSkipPadding =>
      exact s.runDec_noFault _
    | bwPos => exact (s.runEnc_noFault _ : noMachineFault (execBwPos s))
    | cbLookup run level => exact (s.runEnc_noFault _ : noMachineFault (execCbLookup run level s))
    | bwWrite | bwFlush | encPut | encFinish => exact s.runEnc_noFault _
    | _ => exact absurd rfl hac

end Sys2Proof.Machine
end

section
/-! PROOFS. What a finished decode has emitted: the block scan of R84 finds blocks of words. -/

namespace Sys2Proof.Machine

/-- A block is a DC word and AC words, none of them the end-of-data word, which follows them (R84). -/
structure IsBlock (dcOk : Code → Bool) (b : Code × List Code) : Prop where
  dc_ne_eod : b.1 ≠ 0xFE00
  ac_ne_eod : ∀ w ∈ b.2, w ≠ 0xFE00
  dc_ok : dcOk b.1 = true

/-- The words of closed blocks, in order. -/
def blockWords (blocks : List (Code × List Code)) : List Code :=
  blocks.flatMap (fun b => b.1 :: (b.2 ++ [0xFE00]))

/-- `ws` is the words of `n` closed blocks, and after them `rest`. -/
def SplitsIntoBlocks (dcOk : Code → Bool) (ws : List Code) (n : Nat) (rest : List Code) : Prop :=
  ∃ blocks : List (Code × List Code), blocks.length = n ∧ (∀ b ∈ blocks, IsBlock dcOk b) ∧
    ws = blockWords blocks ++ rest

section Splits
variable {dcOk : Code → Bool} {ws rest : List Code} {n : Nat}

theorem SplitsIntoBlocks.append (h : SplitsIntoBlocks dcOk ws n rest) (w : Code) :
    SplitsIntoBlocks dcOk (ws ++ [w]) n (rest ++ [w]) := by
  obtain ⟨blocks, hlen, hblocks, rfl⟩ := h
  exact ⟨blocks, hlen, hblocks, List.append_assoc ..⟩

theorem SplitsIntoBlocks.close {b : Code × List Code} (h : SplitsIntoBlocks dcOk ws n (b.1 :: b.2))
    (hb : IsBlock dcOk b) : SplitsIntoBlocks dcOk (ws ++ [0xFE00]) (n + 1) [] := by
  obtain ⟨blocks, rfl, hblocks, rfl⟩ := h
  refine ⟨blocks ++ [b], by simp, fun b' hb' => ?_, by simp [blockWords]⟩
  rcases List.mem_append.mp hb' with hb' | hb'
  · exact hblocks b' hb'
  · rwa [List.mem_singleton.mp hb']

theorem IsBlock.append {dc : Code} {acs : List Code} (h : IsBlock dcOk (dc, acs)) {w : Code} (hw : w ≠ 0xFE00) :
    IsBlock dcOk (dc, acs ++ [w]) :=
  { h with
    ac_ne_eod := fun w' hw' => (List.mem_append.mp hw').elim (h.ac_ne_eod w') fun hlast =>
      (List.mem_singleton.mp hlast).symm ▸ hw }

end Splits

/-- What the scan's answer says of the words scanned. -/
def ScanSays (dcOk : Code → Bool) (ws : List Code) : Nat × Bool → Prop
  | (n, false) => SplitsIntoBlocks dcOk ws n []
  | (n, true) => ∃ b, IsBlock dcOk b ∧ SplitsIntoBlocks dcOk ws n (b.1 :: b.2)

theorem scanSays_append {dcOk : Code → Bool} {ws : List Code} {w : Code} {st r : Nat × Bool}
    (h : ScanSays dcOk ws st) (hw : scanWord dcOk (some st) w = some r) : ScanSays dcOk (ws ++ [w]) r := by
  obtain ⟨n, isOpen⟩ := st
  cases isOpen with
  | false =>
    simp only [scanWord] at hw
    split at hw
    · cases hw
    · next hdc =>
      cases hw
      simp only [Bool.or_eq_true, Bool.not_eq_true', not_or, Bool.not_eq_true, Bool.not_eq_false] at hdc
      obtain ⟨heod, hok⟩ := hdc
      exact ⟨(w, []), ⟨(not_isEod_iff w).mp heod, nofun, hok⟩, h.append w⟩
  | true =>
    obtain ⟨⟨dc, acs⟩, hb, hsplit⟩ := h
    simp only [scanWord] at hw
    split at hw
    · next heod =>
      cases hw
      rw [show w = 0xFE00 from beq_iff_eq.mp heod]
      exact hsplit.close hb
    · next heod =>
      cases hw
      exact ⟨(dc, acs ++ [w]), hb.append ((not_isEod_iff w).mp (Bool.eq_false_iff.mpr heod)), hsplit.append w⟩

/-- The scan is sound: where it answers, the words are blocks as it says (R84). -/
theorem scanSays_of_scanBlocks {dcOk : Code → Bool} {ws : List Code} {r : Nat × Bool}
    (h : scanBlocks dcOk ws = some r) : ScanSays dcOk ws r := by
  induction ws using List.reverseRecOn generalizing r with
  | nil => cases h; exact ⟨[], rfl, nofun, rfl⟩
  | append_singleton ws w ih =>
    rw [scanBlocks_append] at h
    cases hscan : scanBlocks dcOk ws with
    | none => rw [hscan] at h; cases h
    | some st => exact scanSays_append (ih hscan) (hscan ▸ h)

/-- The frame's end stands after six blocks for each macroblock (R80, R84). -/
theorem Dec.Inv.scan_frameDone {d : Dec} (h : d.Inv) (hphase : d.phase = .frameDone) :
    scanBlocks d.dcWordOk d.out = some (6 * d.mbtotal.toNat, false) := by
  obtain ⟨hmb, hblk⟩ := h.frame_done hphase
  have hout := h.output
  simp only [Dec.outputOk, hphase, hmb, hblk] at hout
  exact hout

/-- Settles O36. -/
theorem outputIsSixBlocksPerMacroblock : Obligations.OutputIsSixBlocksPerMacroblock := by
  intro d hinv hphase
  obtain ⟨blocks, hlen, hblocks, hout⟩ := scanSays_of_scanBlocks (hinv.scan_frameDone hphase)
  refine ⟨blocks, hlen, hout.trans (List.append_nil _), fun b hb => ?_, hinv.count⟩
  obtain ⟨hdc, hac, hok⟩ := hblocks b hb
  exact ⟨hdc, hac, fun hmode => by simpa [Dec.dcWordOk, hmode] using hok⟩

end Sys2Proof.Machine
end

section
/-! PROOFS. The encode engine's commands one by one: what `ENC_START` begins, what `ENC_PUT` appends in each phase, and
that every AC word has bits that decode back to it. -/

namespace Sys2Proof.Machine

/-! ## `ENC_START` (R85) -/

theorem Enc.start_without_mb {mbtotal : BitVec 16} (h : mbtotal = 0) (version : Code) (e : Enc) :
    Enc.start mbtotal version e = .error .programmingFault :=
  if_pos h

theorem Enc.start_begins {mbtotal : BitVec 16} (h : mbtotal ≠ 0) (version : Code) (e : Enc) :
    Enc.start mbtotal version e =
      .ok (Claims.ok0,
        { Enc.reset with
          order := e.order, obuf := e.obuf, mbtotal := mbtotal, version := version, phase := .blockStart }) :=
  if_neg h

theorem exec_encStart_eq (mbtotal : BitVec 16) (version : Code) (s : State) :
    exec (.encStart mbtotal version) s = .next (s.finishEnc (Enc.start mbtotal version s.enc)) := rfl

/-- Settles O43. -/
theorem encStartBeginsAnAttempt : Obligations.EncStartBeginsAnAttempt := by
  refine ⟨fun _ _ _ _ => rfl, fun s mbtotal version => ?_⟩
  rw [exec_encStart_eq]
  refine ⟨fun hmb => ?_, fun hmb => ?_⟩
  · rw [Enc.start_without_mb hmb]
    rfl
  · rw [Enc.start_begins hmb]
    rfl

/-! ## `ENC_PUT` by the phase (R86) -/

theorem exec_encPut_eq {s : State} (hopen : s.enc.phase ≠ .fault) (w : Code) :
    exec (.encPut w) s = .next (s.finishEnc (s.enc.put w)) :=
  State.runEnc_open hopen _

theorem isEod_iff (w : Code) : isEod w = true ↔ w = Config.eodWord := beq_iff_eq

section Put
variable {e : Enc} {w : Code}

theorem Enc.put_outOfSequence (h : e.phase = .idle ∨ e.phase = .frameDone ∨ e.phase = .finished) (w : Code) :
    e.put w = .error .programmingFault := by
  rcases h with h | h | h <;> rw [Enc.put, h]

theorem Enc.put_blockStart (h : e.phase = .blockStart) (w : Code) : e.put w = e.putDc w := by
  rw [Enc.put, h]

theorem Enc.put_inBlock (h : e.phase = .inBlock) (w : Code) :
    e.put w = if isEod w then e.putEob w else e.putAc w := by
  rw [Enc.put, h]

theorem Enc.put_eod (h : e.phase = .inBlock) (hw : w = Config.eodWord) : e.put w = e.putEob w := by
  rw [Enc.put_inBlock h, if_pos ((isEod_iff w).mpr hw)]

theorem Enc.put_ac (h : e.phase = .inBlock) (hw : w ≠ Config.eodWord) : e.put w = e.putAc w := by
  rw [Enc.put_inBlock h, if_neg ((isEod_iff w).not.mpr hw)]

end Put

/-- Settles O46. -/
theorem putOutOfSequenceRaises : Obligations.PutOutOfSequenceRaises := by
  intro s w hphase
  have hopen : s.enc.phase ≠ .fault := by rcases hphase with h | h | h <;> simp [h]
  rw [exec_encPut_eq hopen, Enc.put_outOfSequence hphase]
  rfl

/-! ## The bits of one code (R59) -/

section PutBits
variable {e : Enc} {b : Bits}

theorem Enc.putBits_full (h : 2 ^ 32 - 1 < e.wbits.toNat + b.length) (w : Code) (after : Enc → Enc) :
    Enc.putBits w b after e = .error .programmingFault := by
  rw [Enc.putBits, Enc.writeBits_error h]

theorem Enc.putBits_fits (h : e.wbits.toNat + b.length ≤ 2 ^ 32 - 1) (w : Code) (after : Enc → Enc) :
    Enc.putBits w b after e = .ok (Claims.ok1 (BitVec.ofNat 32 b.length), after ((e.appended b).take w)) := by
  rw [Enc.putBits, Enc.writeBits_ok h]
  rfl

end PutBits

/-! ## A code that opens a block (R87) -/

section PutDc
variable {e : Enc} {w : Code}

/-- The unit with the frame's scale taken from a DC word. -/
def Enc.withScale (e : Enc) (q : BitVec 6) : Enc := { e with qscale := q, qvalid := true }

theorem Enc.putDc_eod (hw : w = Config.eodWord) : e.putDc w = .error .programmingFault :=
  if_pos ((isEod_iff w).mpr hw)

/-- The end-of-data word has top field 63, so a word of scale 0 is not it. -/
theorem ne_eodWord_of_topField_zero (h : topField w = 0) : w ≠ Config.eodWord := by
  rintro rfl
  exact absurd h (by decide)

theorem Enc.putDc_scale_zero (h : topField w = 0) : e.putDc w = .error .incompatible := by
  rw [Enc.putDc, if_neg ((isEod_iff w).not.mpr (ne_eodWord_of_topField_zero h)), if_pos h]

theorem Enc.putDc_other_scale (hw : w ≠ Config.eodWord) (hvalid : e.qvalid = true) (h : topField w ≠ e.qscale) :
    e.putDc w = .error .incompatible := by
  by_cases hzero : topField w = 0
  · exact Enc.putDc_scale_zero hzero
  · rw [Enc.putDc, if_neg ((isEod_iff w).not.mpr hw), if_neg hzero, if_pos ⟨hvalid, h⟩]

theorem Enc.putDc_of_scale (hw : w ≠ Config.eodWord) (hzero : topField w ≠ 0)
    (hscale : e.qvalid = true → topField w = e.qscale) :
    e.putDc w =
      Enc.putBits w (wordBits (bottomField w)) (fun e' => { e' with phase := .inBlock })
        (e.withScale (topField w)) := by
  rw [Enc.putDc, if_neg ((isEod_iff w).not.mpr hw), if_neg hzero, if_neg fun h => h.2 (hscale h.1)]
  rfl

end PutDc

theorem wordBits_bottomField (w : Code) : wordBits (bottomField w) = natToBits 10 (w.toNat % 1024) := by
  rw [wordBits, bottomField_toNat]

/-- Settles O44: the checks in their order, then the ten bits of the DC. -/
theorem putOpensABlock : Obligations.PutOpensABlock := by
  intro s w hphase
  rw [exec_encPut_eq (by simp [hphase]), Enc.put_blockStart hphase]
  refine ⟨fun heod => ?_, fun hzero => ?_, fun heod hvalid hother => ?_, fun heod hzero hscale => ?_⟩
  · rw [Enc.putDc_eod heod]
    rfl
  · rw [Enc.putDc_scale_zero hzero]
    rfl
  · rw [Enc.putDc_other_scale heod hvalid hother]
    rfl
  · rw [Enc.putDc_of_scale heod hzero hscale]
    refine ⟨fun hfull => ?_, fun hfit => ?_⟩
    · rw [Enc.putBits_full (by rwa [wordBits_length])]
      rfl
    · rw [Enc.putBits_fits (by rwa [wordBits_length]), ← wordBits_bottomField]
      rfl

/-! ## The bits of an AC word (R88, R90) -/

section AcBits
variable {w : Code} {b : Bits}

theorem acBits_of_hit (h : cbLookup Config.codebook (topField w) (bottomField w) = some b) :
    acBits Config.codebook w = b := by
  rw [acBits, h]

theorem acBits_of_miss (h : cbLookup Config.codebook (topField w) (bottomField w) = none) :
    acBits Config.codebook w = Config.escPrefix ++ wordBits w := by
  rw [acBits, h]

/-- A pair is in the table, or no entry has it. -/
theorem cbLookup_eq_none_iff {cb : Codebook} {run : BitVec 6} {level : BitVec 10} :
    cbLookup cb run level = none ↔ ∀ e ∈ cb.entries, e.kind ≠ .normal run.toNat (levelMagnitude level) := by
  refine ⟨fun h e he hk => ?_, cbLookup_eq_none⟩
  rw [cbLookup_eq_some_iff.mpr ⟨e, he, hk, rfl⟩] at h
  cases h

theorem acBits_acCode (w : Code) : Claims.acCode w (acBits Config.codebook w) := by
  cases h : cbLookup Config.codebook (topField w) (bottomField w) with
  | some b =>
    obtain ⟨e, he, hk, rfl⟩ := cbLookup_eq_some_iff.mp h
    exact .inl ⟨e, he, hk, by rw [acBits_of_hit h, BitVec.msb_eq_toInt]⟩
  | none => exact .inr ⟨cbLookup_eq_none_iff.mp h, acBits_of_miss h⟩

/-- No code is longer than the escape: a table code is at most 16 bits and a sign, an escape 6 bits and the word's 16. -/
theorem acBits_length_le (w : Code) : (acBits Config.codebook w).length ≤ 22 := by
  cases h : cbLookup Config.codebook (topField w) (bottomField w) with
  | some b =>
    obtain ⟨e, he, _, rfl⟩ := cbLookup_eq_some_iff.mp h
    have hle : e.pfx.length ≤ 16 := Config.codebook.pfx_le e he
    rw [acBits_of_hit h, List.length_append, List.length_singleton]
    omega
  | none =>
    rw [acBits_of_miss h, List.length_append, wordBits_length]
    exact Nat.le_refl 22

/-- The bits of an AC word at the cursor decode to the word (R75). -/
theorem exists_decodeAC_acBits (hw : w ≠ Config.eodWord) {d : Dec} (h : acBits Config.codebook w <+: d.remaining) :
    ∃ k, decodeAC Config.codebook d = .ok (k, w, d.advance (acBits Config.codebook w).length) := by
  cases hlookup : cbLookup Config.codebook (topField w) (bottomField w) with
  | some b =>
    rw [acBits_of_hit hlookup] at h ⊢
    have hdecode := decodeInvertsLookup.2.1 _ _ b d hlookup h
    rw [pack_fields] at hdecode
    exact ⟨.normal, hdecode⟩
  | none =>
    rw [acBits_of_miss hlookup] at h ⊢
    rw [List.length_append, wordBits_length]
    exact ⟨.esc, (decodeAC_esc h).trans (if_neg hw)⟩

end AcBits

/-! ## A code inside a block (R88, R89) -/

/-- The bookkeeping of R89, one field at a time. -/
theorem Enc.advanceBlock_eq (e : Enc) :
    e.advanceBlock =
      { e with
        blk := if e.blk = 5 then 0 else e.blk + 1
        mb := if e.blk = 5 then e.mb + 1 else e.mb
        phase := if e.blk = 5 ∧ e.mb + 1 = e.mbtotal then .frameDone else .blockStart } := by
  unfold Enc.advanceBlock
  split
  · next hblk => simp only [hblk, true_and]
  · next hblk => simp only [hblk, if_false, false_and]

/-- Settles O45: both words are appended by `WriteBits`, and the end-of-data word also advances the block. -/
theorem putContinuesABlock : Obligations.PutContinuesABlock := by
  intro s w hphase
  rw [exec_encPut_eq (by simp [hphase])]
  refine ⟨fun hw => ⟨acBits Config.codebook w, acBits_acCode w, fun hfull => ?_, fun hfit => ?_⟩, fun hw => ?_⟩
  · rw [Enc.put_ac hphase hw, Enc.putAc, Enc.putBits_full hfull]
    rfl
  · rw [Enc.put_ac hphase hw, Enc.putAc, Enc.putBits_fits hfit]
    rfl
  · rw [Enc.put_eod hphase hw, Enc.putEob]
    refine ⟨fun hfull => ?_, fun hfit => ?_⟩
    · rw [Enc.putBits_full hfull]
      rfl
    · rw [Enc.putBits_fits hfit, Enc.advanceBlock_eq]
      rfl

/-! ## `TooMuchEnergy` (R90) -/

theorem Dec.takeAc_err (d : Dec) (k : AcKind) (w : Code) : (d.takeAc k w).2.err = d.err := by
  have hlog : (d.logEscZero (k == .esc) w).err = d.err := by
    unfold Dec.logEscZero
    split <;> rfl
  unfold Dec.takeAc
  dsimp only
  split <;> exact hlog

theorem Dec.EngineStep.err_eq {b : Bool} {d d' : Dec} (h : Dec.EngineStep b d d') : d'.err = d.err := by
  cases h with
  | dc | frame => rfl
  | ac => exact Dec.takeAc_err ..
  | block => unfold Dec.advanceBlock; split <;> rfl

theorem Dec.EngineRun.err_eq {d d' : Dec} (h : Dec.EngineRun d d') : d'.err = d.err := by
  induction h with
  | refl => rfl
  | tail _ hstep ih => exact hstep.err_eq.trans ih

/-- An action that completes leaves `ERR` alone (R104). -/
theorem Dec.Action.err_eq {i : Instr} {d d' : Dec} (h : Dec.Action i d d') : d'.err = d.err := by
  cases h with
  | same | read | latch | clear | padding => rfl
  | start hstart =>
    obtain ⟨_, _, rfl⟩ := Dec.start_ok hstart
    rfl
  | engine hstep => exact hstep.err_eq
  | skip hrun => exact hrun.err_eq

theorem Dec.Change.tooMuchEnergy {i : Instr} {d d' : Dec} (h : Dec.Change i d d') (herr : d'.err = .tooMuchEnergy) :
    d.err = .tooMuchEnergy := by
  cases h with
  | kept => exact herr
  | reset | loaded | notLoaded => cases herr
  | raised _ _ he | skipRaised _ _ he => exact absurd herr he.2
  | action _ ha => exact ha.err_eq.symm.trans herr

theorem Enc.Action.err_eq {i : Instr} {e e' : Enc} (h : Enc.Action i e e') : e'.err = e.err := by
  cases h with
  | same | write | flush | finish => rfl
  | put hput =>
    cases hput with
    | dc | ac => rfl
    | eob => rw [Enc.advanceBlock_eq]; rfl

theorem Enc.Change.tooMuchEnergy {i : Instr} {e e' : Enc} (h : Enc.Change i e e') (herr : e'.err = .tooMuchEnergy) :
    e.err = .tooMuchEnergy := by
  cases h with
  | kept => exact herr
  | reset | init | notStarted => cases herr
  | start hstart =>
    obtain ⟨_, rfl⟩ := Enc.start_ok hstart
    cases herr
  | raised _ _ he => exact absurd herr he.2
  | action _ ha => exact ha.err_eq.symm.trans herr

/-- Settles O47. -/
theorem everyAcWordIsEncodable : Obligations.EveryAcWordIsEncodable := by
  refine ⟨fun w d hw h => (decodeAC_esc h).trans (if_neg hw), fun s w hphase hw hroom => ?_,
    fun i s t h => ⟨(exec_dec_change h).tooMuchEnergy, (exec_enc_change h).tooMuchEnergy⟩⟩
  have hlen := acBits_length_le w
  rw [exec_encPut_eq (by simp [hphase]), Enc.put_ac hphase hw, Enc.putAc, Enc.putBits_fits (by omega)]
  exact ⟨_, acBits Config.codebook w, rfl, hphase, rfl, rfl, rfl, fun d h => exists_decodeAC_acBits hw h⟩

end Sys2Proof.Machine
end

section
/-! PROOFS. `ENC_FINISH`: the trailer and the padding, the header, and the words behind it. -/

namespace Sys2Proof.Machine

/-! ## The stream of a finished frame (R91) -/

theorem trailer_length : Config.trailer.length = 11 := rfl

/-- The unit with the trailer and the padding appended. -/
def Enc.closed (e : Enc) : Enc := (e.appended Config.trailer).padded

section Closed
variable {e : Enc} {words : Nat}

/-- The words that the trailer and the padding end (R91). -/
theorem Enc.wordCount_trailer (hfit : 16 * ((e.wbits.toNat + 11 + 15) / 16) ≤ 2 ^ 32 - 1) :
    (e.appended Config.trailer).wordCount = (e.wbits.toNat + 11 + 15) / 16 := by
  have hlen := trailer_length
  rw [Enc.wordCount, Enc.appended_wbits (by omega), hlen]

theorem Enc.closed_wbits (hwords : words = (e.wbits.toNat + 11 + 15) / 16) (hfit : 16 * words ≤ 2 ^ 32 - 1) :
    e.closed.wbits.toNat = 16 * words := by
  subst hwords
  have hcount := Enc.wordCount_trailer hfit
  rw [Enc.closed, Enc.padded_wbits (by rwa [hcount]), hcount]

theorem Enc.closed_wstream (hwords : words = (e.wbits.toNat + 11 + 15) / 16) (hfit : 16 * words ≤ 2 ^ 32 - 1) :
    e.closed.wstream =
      e.wstream ++ Config.trailer ++ List.replicate (16 * words - (e.wbits.toNat + 11)) false := by
  subst hwords
  have hlen := trailer_length
  have hpad := (e.appended Config.trailer).wbits_add_padding
  rw [Enc.wordCount_trailer hfit, Enc.appended_wbits (by omega), hlen] at hpad
  rw [← hpad, Nat.add_sub_cancel_left]
  rfl

theorem Enc.closed_wstream_length (hinv : e.Inv) (hwords : words = (e.wbits.toNat + 11 + 15) / 16)
    (hfit : 16 * words ≤ 2 ^ 32 - 1) : e.closed.wstream.length = 16 * words := by
  have hwbits := hinv.wbits_len
  have hlen := trailer_length
  rw [Enc.closed_wstream hwords hfit]
  simp only [List.length_append, List.length_replicate]
  omega

end Closed

/-! ## What `ENC_FINISH` leaves (R91) -/

section Finished
variable {e : Enc}

/-- The header, and behind it the whole words. -/
theorem Enc.finished_eq {words : Nat} (h : e.wbits.toNat = 16 * words) :
    e.finished =
      { e with
        obuf := (e.obuf.writeBytes 0 e.header).writeBytes 8 (streamBytes e.order e.wstream words)
        outlen := BitVec.ofNat 32 (8 + 2 * words)
        phase := .finished } :=
  congrArg (fun e' : Enc => { e' with phase := .finished })
    (Enc.storeWords_eq (e := { e with obuf := e.obuf.writeBytes 0 e.header }) h 8)

theorem Enc.finished_output {words : Nat} (h : e.wbits.toNat = 16 * words) :
    e.finished.output = (List.range (8 + 2 * words)).map e.finished.obuf.read := by
  have hlen : e.finished.outlen.toNat = 8 + 2 * (e.wbits.toNat / 16) := Enc.storeWords_outlen (Nat.le_refl 8)
  rw [Enc.output, Mem.bytes, hlen, h, Nat.mul_div_cancel_left _ (by decide)]

/-- The stored words lie behind the header and leave it as it was put. -/
theorem Enc.finished_read_header (hwf : e.obuf.wf = true) {a : Nat} (ha : a < e.header.length) :
    e.finished.obuf.read a = e.header[a] := by
  have hheader := Mem.read_writeBytes_in hwf 0 a e.header ha
  rw [Nat.zero_add] at hheader
  exact (Mem.read_writeBytes_out _ _ (.inl ha)).trans hheader

theorem Enc.finished_wordsStored {words : Nat} (hwf : e.obuf.wf = true) (h : e.wbits.toNat = 16 * words)
    (hlen : e.wstream.length = 16 * words) : Claims.wordsStored e.order e.wstream 8 e.finished.obuf := by
  rw [Enc.finished_eq h]
  exact wordsStored_writeBytes (Mem.writeBytes_wf hwf 0 _) e.order hlen 8

end Finished

/-! ## `ENC_FINISH` (R91) -/

section Finish
variable {e : Enc}

theorem Enc.finish_midFrame (h : e.phase ≠ .frameDone) : e.finish = .error .programmingFault := if_pos h

theorem Enc.finish_hint_too_large (hphase : e.phase = .frameDone) (h : 32767 < countHint e.codecount.toNat) :
    e.finish = .error .incompatible := by
  rw [Enc.finish, if_neg (not_not.mpr hphase), if_pos h]

theorem Enc.finish_fits (hphase : e.phase = .frameDone) (hcount : countHint e.codecount.toNat ≤ 32767)
    (hfit : 16 * ((e.wbits.toNat + 11 + 15) / 16) ≤ 2 ^ 32 - 1) :
    e.finish =
      .ok (⟨.ok, some e.closed.finished.outlen, some e.codecount, some e.closed.finished.output⟩,
        e.closed.finished) := by
  have hlen := trailer_length
  have htrailer : e.writeBits Config.trailer = .ok (e.appended Config.trailer) := Enc.writeBits_ok (by omega)
  have hpad := Enc.writeBits_padding_fits (e := e.appended Config.trailer) (by rwa [Enc.wordCount_trailer hfit])
  rw [Enc.finish, if_neg (not_not.mpr hphase), if_neg (Nat.not_lt.mpr hcount)]
  simp only [htrailer, hpad]
  rfl

end Finish

theorem exec_encFinish_fits {s : State} (hphase : s.enc.phase = .frameDone)
    (hcount : countHint s.enc.codecount.toNat ≤ 32767)
    (hfit : 16 * ((s.enc.wbits.toNat + 11 + 15) / 16) ≤ 2 ^ 32 - 1) :
    exec .encFinish s =
      Claims.encNext s s.enc.closed.finished
        ⟨.ok, some s.enc.closed.finished.outlen, some s.enc.codecount, some s.enc.closed.finished.output⟩ := by
  rw [exec_encFinish_eq (by simp [hphase]), Enc.finish_fits hphase hcount hfit]
  rfl

/-- The two bytes of a 16-bit field, low byte first (R94). -/
theorem extractLsb'_low_toNat (w : Code) : (w.extractLsb' 0 8).toNat = w.toNat % 256 := by
  simp

theorem extractLsb'_high_toNat (w : Code) : (w.extractLsb' 8 8).toNat = w.toNat / 256 := by
  have := w.isLt
  simp only [BitVec.extractLsb'_toNat, Nat.shiftRight_eq_div_pow]
  omega

/-- Settles O48: what is stored is the closed stream of whole words, behind the header. -/
theorem finishAssemblesTheFrame : Obligations.FinishAssemblesTheFrame := by
  refine ⟨fun _ _ _ _ => rfl, fun s words h hinv hopen hwords hhint => ?_⟩
  refine ⟨fun hphase => ?_, fun hphase hlarge => ?_, fun hphase hsmall hfit => ?_⟩
  · rw [exec_encFinish_eq hopen, Enc.finish_midFrame hphase]
    rfl
  · rw [exec_encFinish_eq hopen, Enc.finish_hint_too_large hphase (hhint ▸ hlarge)]
    rfl
  · have hwbits := Enc.closed_wbits hwords hfit
    have hwf : s.enc.closed.obuf.wf = true := hinv.obuf_wf
    have hbyte {a : Nat} (ha : a < 8) := Enc.finished_read_header hwf (a := a) ha
    have hfield : (BitVec.ofNat 16 (countHint s.enc.codecount.toNat)).toNat = h := by
      rw [BitVec.toNat_ofNat, ← hhint]
      omega
    refine ⟨s.enc.closed.finished.obuf, s.enc.closed.wstream, Enc.closed_wstream hwords hfit, ?_, ?_, ?_, ?_, ?_, ?_,
      ?_, ?_, Enc.finished_wordsStored hwf hwbits (Enc.closed_wstream_length hinv hwords hfit), ?_⟩
    · rw [hbyte (by decide), ← hfield]
      exact extractLsb'_low_toNat _
    · rw [hbyte (by decide), ← hfield]
      exact extractLsb'_high_toNat _
    · exact hbyte (by decide)
    · exact hbyte (by decide)
    · rw [hbyte (by decide)]
      exact BitVec.toNat_setWidth_of_le (by decide)
    · exact hbyte (by decide)
    · rw [hbyte (by decide)]
      exact extractLsb'_low_toNat _
    · rw [hbyte (by decide)]
      exact extractLsb'_high_toNat _
    · have hclosed : s.enc.closed.wbits = BitVec.ofNat 32 (16 * words) := by
        rw [← hwbits, BitVec.ofNat_toNat, BitVec.setWidth_eq]
      rw [exec_encFinish_fits hphase (hhint ▸ hsmall) (hwords ▸ hfit), Enc.finished_output hwbits, ← hclosed,
        Enc.finished_eq hwbits]
      rfl

end Sys2Proof.Machine
end

section
/-! PROOFS. The round trip of R93, first half: the bits of a frame word by word, and the encode engine that appends
them. -/

namespace Sys2Proof.Machine

/-! ## The bits of a frame (R87-R89) -/

/-- `bits` are the bits of the words `ws`, which end a frame of scale `q` after `left` more blocks; the flag says whether
the first of the words stands inside a block. -/
inductive FrameCoding (q : BitVec 6) : Bool → Nat → List Code → Bits → Prop where
  | nil : FrameCoding q false 0 [] []
  | dc {left : Nat} {w : Code} {ws : List Code} {b : Bits} (hw : w ≠ Config.eodWord) (hscale : topField w = q)
      (hrest : FrameCoding q true (left + 1) ws b) :
      FrameCoding q false (left + 1) (w :: ws) (wordBits (bottomField w) ++ b)
  | ac {left : Nat} {w : Code} {ws : List Code} {b : Bits} (hw : w ≠ Config.eodWord)
      (hrest : FrameCoding q true (left + 1) ws b) :
      FrameCoding q true (left + 1) (w :: ws) (acBits Config.codebook w ++ b)
  | eob {left : Nat} {ws : List Code} {b : Bits} (hrest : FrameCoding q false left ws b) :
      FrameCoding q true (left + 1) (Config.eodWord :: ws) (Config.eobCode ++ b)

section Coding
variable {q : BitVec 6} {left : Nat} {ws : List Code} {b : Bits}

theorem eobCode_length : Config.eobCode.length = 2 := rfl

theorem FrameCoding.length_le {isOpen : Bool} (h : FrameCoding q isOpen left ws b) : b.length ≤ 22 * ws.length := by
  induction h with
  | nil => exact Nat.le_refl 0
  | dc _ _ _ ih =>
    rw [List.length_append, List.length_cons, wordBits_length]
    omega
  | ac _ _ ih =>
    have hcode := acBits_length_le ‹Code›
    rw [List.length_append, List.length_cons]
    omega
  | eob _ ih =>
    rw [List.length_append, List.length_cons, eobCode_length]
    omega

theorem FrameCoding.exists_acs (h : FrameCoding q true (left + 1) ws b) {acs : List Code}
    (hacs : ∀ w ∈ acs, w ≠ Config.eodWord) : ∃ b', FrameCoding q true (left + 1) (acs ++ ws) b' := by
  induction acs with
  | nil => exact ⟨b, h⟩
  | cons w acs ih =>
    obtain ⟨b', h'⟩ := ih fun w' hw' => hacs w' (List.mem_cons_of_mem _ hw')
    exact ⟨_, .ac (hacs w List.mem_cons_self) h'⟩

theorem blockWords_cons (c : Code × List Code) (blocks : List (Code × List Code)) :
    blockWords (c :: blocks) = c.1 :: (c.2 ++ Config.eodWord :: blockWords blocks) := by
  rw [blockWords, List.flatMap_cons, List.cons_append, List.append_assoc]
  rfl

/-- Every frame has its bits, block by block. -/
theorem exists_frameCoding {blocks : List (Code × List Code)}
    (h : ∀ c ∈ blocks, c.1 ≠ Config.eodWord ∧ topField c.1 = q ∧ ∀ w ∈ c.2, w ≠ Config.eodWord) :
    ∃ b, FrameCoding q false blocks.length (blockWords blocks) b := by
  induction blocks with
  | nil => exact ⟨[], .nil⟩
  | cons c blocks ih =>
    obtain ⟨hdc, hscale, hacs⟩ := h c List.mem_cons_self
    obtain ⟨b, hrest⟩ := ih fun c' hc' => h c' (List.mem_cons_of_mem _ hc')
    obtain ⟨b', hblock⟩ := hrest.eob.exists_acs hacs
    rw [blockWords_cons]
    exact ⟨_, hblock.dc hdc hscale⟩

end Coding

/-! ## Between the blocks (R13, R17, R80, R89) -/

/-- The blocks that are left decide whether the macroblocks are all done. -/
theorem left_eq_zero_iff {mb mbtotal : BitVec 16} {blk : BitVec 3} {left : Nat} (hblk : blk.toNat ≤ 5)
    (hleft : blockIndex mb blk + left = 6 * mbtotal.toNat) : left = 0 ↔ mb = mbtotal := by
  have hindex : blockIndex mb blk = 6 * mb.toNat + blk.toNat := rfl
  rw [← BitVec.toNat_inj]
  omega

/-- The phase of the encode engine in a frame with `left` blocks to be closed. -/
def encPhaseAt : Bool → Nat → EncPhase
  | true, _ => .inBlock
  | false, 0 => .frameDone
  | false, _ + 1 => .blockStart

/-- The phase of the decode engine there. -/
def decPhaseAt : Bool → Nat → DecPhase
  | true, _ => .readingAc
  | false, 0 => .frameDone
  | false, _ + 1 => .blockStart

theorem Enc.Inv.phase_between {e : Enc} (h : e.Inv) (hphase : e.phase = .blockStart ∨ e.phase = .frameDone) {left : Nat}
    (hleft : blockIndex e.mb e.blk + left = 6 * e.mbtotal.toNat) : e.phase = encPhaseAt false left := by
  have hdone := left_eq_zero_iff h.blk_range hleft
  cases left with
  | zero => exact hphase.resolve_left fun hstart => h.mb_ne (.inl hstart) (hdone.mp rfl)
  | succ left => exact hphase.resolve_right fun hend => absurd (hdone.mpr (h.frame_done (.inl hend)).1) (by simp)

theorem Dec.Inv.phase_between {d : Dec} (h : d.Inv) (hphase : d.phase = .blockStart ∨ d.phase = .frameDone) {left : Nat}
    (hleft : blockIndex d.mb d.blk + left = 6 * d.mbtotal.toNat) : d.phase = decPhaseAt false left := by
  have hdone := left_eq_zero_iff h.blk_range hleft
  cases left with
  | zero =>
    refine hphase.resolve_left fun hstart => ?_
    exact Nat.ne_of_lt (h.mb_lt (.inl hstart)) (congrArg BitVec.toNat (hdone.mp rfl))
  | succ left => exact hphase.resolve_right fun hend => absurd (hdone.mpr (h.frame_done hend).1) (by simp)

/-- Both engines count a closed block in the same way. -/
theorem blockIndex_next {mb : BitVec 16} {blk : BitVec 3} (hblk : blk.toNat ≤ 5) (hmb : mb.toNat < 2 ^ 16 - 1) :
    blockIndex (if blk = 5 then mb + 1 else mb) (if blk = 5 then 0 else blk + 1) = blockIndex mb blk + 1 := by
  by_cases h : blk = 5
  · rw [if_pos h, if_pos h]
    exact blockIndex_next_mb h hmb
  · rw [if_neg h, if_neg h]
    exact blockIndex_next_blk (blk_lt_five hblk h)

/-! ## The encode engine over a frame (R87-R89) -/

theorem runAll_cons {i : Instr} {s t : State} (h : exec i s = .next t) (is : List Instr) :
    Claims.runAll (i :: is) s = Claims.runAll is t := by
  rw [Claims.runAll, h]

theorem runAll_append (is js : List Instr) (s : State) :
    Claims.runAll (is ++ js) s = (Claims.runAll is s).bind (Claims.runAll js) := by
  induction is generalizing s with
  | nil => rfl
  | cons i is ih =>
    simp only [List.cons_append, Claims.runAll]
    cases exec i s with
    | next t => exact ih t
    | fault | refused => rfl

/-- `ENC_PUT` of the words one after another takes ENC from `e` to `e'`, and appends `b`. -/
structure Enc.Encodes (ws : List Code) (b : Bits) (e e' : Enc) : Prop where
  runs : ∀ s : State, s.enc = e → ∃ t, Claims.runAll (ws.map .encPut) s = some t ∧ t.enc = e'
  wstream : e'.wstream = e.wstream ++ b
  taken : e'.taken = e.taken ++ ws

theorem Enc.Encodes.refl (e : Enc) : Enc.Encodes [] [] e e :=
  ⟨fun s hs => ⟨s, rfl, hs⟩, (List.append_nil _).symm, (List.append_nil _).symm⟩

theorem Enc.Encodes.trans {ws ws' : List Code} {b b' : Bits} {e e1 e' : Enc} (h : Enc.Encodes ws b e e1)
    (h' : Enc.Encodes ws' b' e1 e') : Enc.Encodes (ws ++ ws') (b ++ b') e e' where
  runs s hs := by
    obtain ⟨t, ht, hte⟩ := h.runs s hs
    obtain ⟨u, hu, hue⟩ := h'.runs t hte
    exact ⟨u, by rw [List.map_append, runAll_append, ht]; exact hu, hue⟩
  wstream := by rw [h'.wstream, h.wstream, List.append_assoc]
  taken := by rw [h'.taken, h.taken, List.append_assoc]

/-- One word whose action completes. -/
theorem Enc.Encodes.put {w : Code} {b : Bits} {e e' : Enc} {r : Response} (hopen : e.phase ≠ .fault)
    (h : e.put w = .ok (r, e')) (hstream : e'.wstream = e.wstream ++ b) (htaken : e'.taken = e.taken ++ [w]) :
    Enc.Encodes [w] b e e' where
  runs s hs := by
    subst hs
    have hput := exec_encPut_eq hopen w
    rw [h] at hput
    exact ⟨(s.withEnc e').respond r, runAll_cons hput [], rfl⟩
  wstream := hstream
  taken := htaken

/-- The encode engine inside a frame of scale `q`, with `left` blocks to be closed. -/
structure Enc.MidFrame (q : BitVec 6) (mbtotal : BitVec 16) (isOpen : Bool) (left : Nat) (e : Enc) : Prop where
  inv : e.Inv
  mbtotal_eq : e.mbtotal = mbtotal
  scale : e.qvalid = true → e.qscale = q
  left_eq : blockIndex e.mb e.blk + left = 6 * e.mbtotal.toNat
  phase : e.phase = encPhaseAt isOpen left

section Encode
variable {q : BitVec 6} {mbtotal : BitVec 16} {left : Nat} {w : Code} {e : Enc}

theorem Enc.MidFrame.put_dc (h : e.MidFrame q mbtotal false (left + 1)) (hq : q ≠ 0) (hw : w ≠ Config.eodWord)
    (hscale : topField w = q) (hfit : e.wstream.length + 10 ≤ 2 ^ 32 - 1) :
    ∃ e', Enc.Encodes [w] (wordBits (bottomField w)) e e' ∧ e'.MidFrame q mbtotal true (left + 1) := by
  subst hscale
  have hphase : e.phase = .blockStart := h.phase
  have hsame : e.qvalid = true → topField w = e.qscale := fun hvalid => (h.scale hvalid).symm
  have hroom : (e.withScale (topField w)).wbits.toNat + (wordBits (bottomField w)).length ≤ 2 ^ 32 - 1 := by
    rw [wordBits_length]
    exact h.inv.wbits_len ▸ hfit
  have hput := Enc.put_blockStart hphase w
  rw [Enc.putDc_of_scale hw hq hsame, Enc.putBits_fits hroom] at hput
  have hdone := Enc.Put.dc hphase ((not_isEod_iff w).mpr hw) hq hsame (by simp) hroom
  exact ⟨_, .put (by simp [hphase]) hput rfl rfl, hdone.inv h.inv, h.mbtotal_eq, fun _ => rfl, h.left_eq, rfl⟩

theorem Enc.MidFrame.put_ac (h : e.MidFrame q mbtotal true left) (hw : w ≠ Config.eodWord)
    (hfit : e.wstream.length + (acBits Config.codebook w).length ≤ 2 ^ 32 - 1) :
    ∃ e', Enc.Encodes [w] (acBits Config.codebook w) e e' ∧ e'.MidFrame q mbtotal true left := by
  have hphase : e.phase = .inBlock := h.phase
  rw [← h.inv.wbits_len] at hfit
  have hput := Enc.put_ac hphase hw
  rw [Enc.putAc, Enc.putBits_fits hfit] at hput
  have hdone := Enc.Put.ac hphase ((not_isEod_iff w).mpr hw) (two_le_acBits w) hfit
  exact ⟨_, .put (by simp [hphase]) hput rfl rfl, hdone.inv h.inv, h.mbtotal_eq, h.scale, h.left_eq, hphase⟩

theorem Enc.advanceBlock_phase (e : Enc) :
    e.advanceBlock.phase = .blockStart ∨ e.advanceBlock.phase = .frameDone := by
  rw [Enc.advanceBlock_eq]
  dsimp only
  split
  · exact .inr rfl
  · exact .inl rfl

theorem Enc.MidFrame.put_eob (h : e.MidFrame q mbtotal true (left + 1)) (hfit : e.wstream.length + 2 ≤ 2 ^ 32 - 1) :
    ∃ e', Enc.Encodes [Config.eodWord] Config.eobCode e e' ∧ e'.MidFrame q mbtotal false left := by
  have hphase : e.phase = .inBlock := h.phase
  rw [← h.inv.wbits_len] at hfit
  have hput := Enc.put_eod hphase rfl
  rw [Enc.putEob, Enc.putBits_fits hfit] at hput
  have hdone : Enc.Put Config.eodWord e _ := .eob (b := Config.eobCode) hphase rfl (Nat.le_refl 2) hfit
  have hinv := hdone.inv h.inv
  have hnext := ((e.appended Config.eobCode).take Config.eodWord).advanceBlock_phase
  have hmb := h.inv.mb_lt (.inr hphase)
  have hindex := blockIndex_next h.inv.blk_range (Nat.lt_of_lt_of_le hmb (Nat.le_of_lt_succ e.mbtotal.isLt))
  have hleft := h.left_eq
  rw [Nat.add_comm left, ← Nat.add_assoc, ← hindex] at hleft
  rw [Enc.advanceBlock_eq] at hput hinv hnext
  exact ⟨_, .put (by simp [hphase]) hput rfl rfl, hinv, h.mbtotal_eq, h.scale, hleft, hinv.phase_between hnext hleft⟩

/-- The encode engine takes a frame word by word, and appends its bits. -/
theorem FrameCoding.encodes {isOpen : Bool} {ws : List Code} {b : Bits} (h : FrameCoding q isOpen left ws b)
    (hq : q ≠ 0) (hmid : e.MidFrame q mbtotal isOpen left) (hfit : e.wstream.length + b.length ≤ 2 ^ 32 - 1) :
    ∃ e', Enc.Encodes ws b e e' ∧ e'.MidFrame q mbtotal false 0 := by
  induction h generalizing e with
  | nil => exact ⟨e, .refl e, hmid⟩
  | dc hw hscale _ ih =>
    rw [List.length_append, wordBits_length] at hfit
    obtain ⟨e1, henc, hmid1⟩ := hmid.put_dc hq hw hscale (by omega)
    obtain ⟨e', hrest, hend⟩ := ih hmid1 (by rw [henc.wstream, List.length_append, wordBits_length]; omega)
    exact ⟨e', henc.trans hrest, hend⟩
  | ac hw _ ih =>
    rw [List.length_append] at hfit
    obtain ⟨e1, henc, hmid1⟩ := hmid.put_ac hw (by omega)
    obtain ⟨e', hrest, hend⟩ := ih hmid1 (by rw [henc.wstream, List.length_append]; omega)
    exact ⟨e', henc.trans hrest, hend⟩
  | eob _ ih =>
    rw [List.length_append, eobCode_length] at hfit
    obtain ⟨e1, henc, hmid1⟩ := hmid.put_eob (by omega)
    obtain ⟨e', hrest, hend⟩ := ih hmid1 (by rw [henc.wstream, List.length_append, eobCode_length]; omega)
    exact ⟨e', henc.trans hrest, hend⟩

end Encode

end Sys2Proof.Machine
end

section
/-! PROOFS. The round trip of R93, second half: the decode engine over the bits of a frame, the reader over the bytes that
`ENC_FINISH` returns, and the words that come back. -/

namespace Sys2Proof.Machine

/-! ## The decode engine over a frame (R78-R80) -/

theorem engineAfter_add (m n : Nat) (d : Dec) :
    Claims.engineAfter (m + n) d = (Claims.engineAfter m d).bind (Claims.engineAfter n) := by
  induction m generalizing d with
  | zero =>
    rw [Nat.zero_add]
    rfl
  | succ m ih =>
    rw [Nat.add_right_comm, Claims.engineAfter, Claims.engineAfter]
    split
    · rfl
    · cases d.step with
      | error e => rfl
      | ok p => exact ih p.2

/-- The engine's steps take DEC from `d` to `d'`, consume the bits `b` at the cursor, and emit the words `ws`. -/
structure Dec.Decodes (b : Bits) (ws : List Code) (d d' : Dec) : Prop where
  steps : ∃ n, Claims.engineAfter n d = some d'
  remaining : d.remaining = b ++ d'.remaining
  out : d'.out = d.out ++ ws

theorem Dec.Decodes.refl (d : Dec) : Dec.Decodes [] [] d d :=
  ⟨⟨0, rfl⟩, rfl, (List.append_nil _).symm⟩

theorem Dec.Decodes.trans {b b' : Bits} {ws ws' : List Code} {d d1 d' : Dec} (h : Dec.Decodes b ws d d1)
    (h' : Dec.Decodes b' ws' d1 d') : Dec.Decodes (b ++ b') (ws ++ ws') d d' where
  steps := by
    obtain ⟨m, hm⟩ := h.steps
    obtain ⟨n, hn⟩ := h'.steps
    exact ⟨m + n, by rw [engineAfter_add, hm]; exact hn⟩
  remaining := by rw [h.remaining, h'.remaining, List.append_assoc]
  out := by rw [h'.out, h.out, List.append_assoc]

theorem Dec.Decodes.step {b : Bits} {ws : List Code} {d d' : Dec} {r : Response} (hphase : d.phase ≠ .frameDone)
    (h : d.step = .ok (r, d')) (hrem : d.remaining = b ++ d'.remaining) (hout : d'.out = d.out ++ ws) :
    Dec.Decodes b ws d d' :=
  ⟨⟨1, engineAfter_succ_iff.mpr ⟨hphase, r, d', h, rfl⟩⟩, hrem, hout⟩

theorem Dec.Inv.step {d d' : Dec} {r : Response} (hinv : d.Inv) (hopen : d.phase ≠ .fault)
    (h : d.step = .ok (r, d')) : d'.Inv := by
  have hstep := Dec.step_answers hopen
  rw [h] at hstep
  exact hstep.inv hinv

/-- The bits of a field that stands at the cursor are there, and the rest remains after it. -/
theorem Dec.remaining_field {d : Dec} {b rest : Bits} (hinv : d.Inv) (h : d.remaining = b ++ rest) :
    d.bitpos.toNat + b.length ≤ d.nbits.toNat ∧ d.streamBits d.bitpos.toNat b.length = b ∧
      (d.advance b.length).remaining = rest := by
  have hlen := d.remaining_length
  have hcursor := hinv.cursor
  rw [h, List.length_append] at hlen
  have hthere : d.bitpos.toNat + b.length ≤ d.nbits.toNat := by omega
  exact ⟨hthere, by rw [Dec.remaining_take hthere, h, List.take_left],
    by rw [Dec.remaining_advance hthere, h, List.drop_left]⟩

/-- The decode engine inside a GLOBAL-mode frame of scale `q`, with `left` blocks to be closed. -/
structure Dec.MidFrame (q : BitVec 6) (mbtotal : BitVec 16) (isOpen : Bool) (left : Nat) (d : Dec) : Prop where
  inv : d.Inv
  mode : d.qmode = .global
  scale : d.qscale = q
  mbtotal_eq : d.mbtotal = mbtotal
  left_eq : blockIndex d.mb d.blk + left = 6 * d.mbtotal.toNat
  phase : d.phase = decPhaseAt isOpen left

section Decode
variable {q : BitVec 6} {mbtotal : BitVec 16} {left : Nat} {w : Code} {rest : Bits} {d : Dec}

theorem Dec.step_dc (hinv : d.Inv) (hphase : d.phase = .blockStart) (hmode : d.qmode = .global)
    (hw : w ≠ Config.eodWord) (hscale : topField w = d.qscale)
    (hrem : d.remaining = wordBits (bottomField w) ++ rest) :
    d.step = .ok (emitted w, { Claims.emitAfter d 10 w with phase := .readingAc }) := by
  obtain ⟨hthere, hbits, _⟩ := Dec.remaining_field hinv hrem
  rw [wordBits_length] at hthere hbits
  have hfield : d.DcField 10 w := by
    refine .inl ⟨hmode, rfl, ?_⟩
    rw [hbits, bitsToNat_wordBits, BitVec.ofNat_toNat, BitVec.setWidth_eq, ← hscale, pack_fields]
  rw [Dec.step_blockStart hphase, Dec.dcAction_of_dcField hfield, Dec.consume_there hthere]
  exact if_neg ((isEod_iff w).not.mpr hw)

theorem Dec.MidFrame.step_dc (h : d.MidFrame q mbtotal false (left + 1)) (hw : w ≠ Config.eodWord)
    (hscale : topField w = q) (hrem : d.remaining = wordBits (bottomField w) ++ rest) :
    ∃ d', Dec.Decodes (wordBits (bottomField w)) [w] d d' ∧ d'.MidFrame q mbtotal true (left + 1) ∧
      d'.remaining = rest := by
  have hphase : d.phase = .blockStart := h.phase
  have hstep := Dec.step_dc h.inv hphase h.mode hw (hscale.trans h.scale.symm) hrem
  obtain ⟨_, _, hafter⟩ := Dec.remaining_field h.inv hrem
  rw [wordBits_length] at hafter
  exact ⟨_, .step (by simp [hphase]) hstep (hrem.trans (congrArg _ hafter.symm)) rfl,
    ⟨h.inv.step (by simp [hphase]) hstep, h.mode, h.scale, h.mbtotal_eq, h.left_eq, rfl⟩, hafter⟩

/-- A code that is no end-of-block keeps the engine in the block. -/
theorem Dec.step_code {k : AcKind} {n : Nat} (hphase : d.phase = .readingAc)
    (h : decodeAC Config.codebook d = .ok (k, w, d.advance n)) :
    d.step =
      .ok (emitted w,
        { Claims.emitAfter d n w with
          esczero := if k = .esc ∧ w.extractLsb' 0 10 = 0#10 then d.esczero + 1 else d.esczero
          phase := if k = .eob then .blockDone else .readingAc }) := by
  rw [Dec.step_readingAc hphase, Dec.acAction, h, ← Dec.takeAc_advance hphase]
  rfl

theorem Dec.MidFrame.step_ac (h : d.MidFrame q mbtotal true left) (hw : w ≠ Config.eodWord)
    (hrem : d.remaining = acBits Config.codebook w ++ rest) :
    ∃ d', Dec.Decodes (acBits Config.codebook w) [w] d d' ∧ d'.MidFrame q mbtotal true left ∧
      d'.remaining = rest := by
  have hphase : d.phase = .readingAc := h.phase
  obtain ⟨k, hcode⟩ := exists_decodeAC_acBits hw (hrem ▸ List.prefix_append _ rest)
  have hkind : k ≠ .eob := by
    have hanswer := decodeAC_answers d
    rw [hcode] at hanswer
    obtain ⟨n, hac, _⟩ := hanswer
    exact fun hk => hw (hac.eq_eob_iff.mp hk)
  have hstep := Dec.step_code hphase hcode
  rw [if_neg hkind] at hstep
  obtain ⟨_, _, hafter⟩ := Dec.remaining_field h.inv hrem
  exact ⟨_, .step (by simp [hphase]) hstep (hrem.trans (congrArg _ hafter.symm)) rfl,
    ⟨h.inv.step (by simp [hphase]) hstep, h.mode, h.scale, h.mbtotal_eq, h.left_eq, rfl⟩, hafter⟩

/-- The bookkeeping of R80, one field at a time. -/
theorem Dec.advanceBlock_eq (d : Dec) :
    d.advanceBlock =
      { d with
        blk := if d.blk = 5 then 0 else d.blk + 1
        mb := if d.blk = 5 then d.mb + 1 else d.mb
        phase := if d.blk = 5 ∧ d.mb + 1 = d.mbtotal then .frameDone else .blockStart } := by
  by_cases h : d.blk = 5
  · rw [Dec.advanceBlock_of_five h]
    simp only [h, if_true, true_and]
  · rw [Dec.advanceBlock_of_ne_five h]
    simp only [h, if_false, false_and]

/-- The advance after a closed block reads no bits and emits no word. -/
theorem Dec.MidFrame.close_block (hinv : d.Inv) (hphase : d.phase = .blockDone) (hmode : d.qmode = .global)
    (hscale : d.qscale = q) (htotal : d.mbtotal = mbtotal)
    (hleft : blockIndex d.mb d.blk + (left + 1) = 6 * d.mbtotal.toNat) :
    ∃ d', Dec.Decodes [] [] d d' ∧ d'.MidFrame q mbtotal false left ∧ d'.remaining = d.remaining := by
  have hstep := Dec.step_blockDone hphase
  have hinv' := hinv.step (by simp [hphase]) hstep
  have hnext := d.advanceBlock_phase
  have hmb := hinv.mb_lt (.inr (.inr hphase))
  have hindex := blockIndex_next hinv.blk_range (Nat.lt_of_lt_of_le hmb (Nat.le_of_lt_succ d.mbtotal.isLt))
  rw [Nat.add_comm left, ← Nat.add_assoc, ← hindex] at hleft
  rw [Dec.advanceBlock_eq] at hstep hinv' hnext
  exact ⟨_, .step (by simp [hphase]) hstep rfl (List.append_nil _).symm,
    ⟨hinv', hmode, hscale, htotal, hleft, hinv'.phase_between hnext hleft⟩, rfl⟩

/-- An end-of-block is two steps of the engine: the code, and the advance. -/
theorem Dec.MidFrame.step_eob (h : d.MidFrame q mbtotal true (left + 1)) (hrem : d.remaining = Config.eobCode ++ rest) :
    ∃ d', Dec.Decodes Config.eobCode [Config.eodWord] d d' ∧ d'.MidFrame q mbtotal false left ∧
      d'.remaining = rest := by
  have hphase : d.phase = .readingAc := h.phase
  have hstep := Dec.step_code hphase (decodeAC_eob (hrem ▸ List.prefix_append _ rest))
  have hclosed := h.inv.step (by simp [hphase]) hstep
  obtain ⟨_, _, hafter⟩ := Dec.remaining_field h.inv hrem
  obtain ⟨d', hdec, hmid, hrem'⟩ := Dec.MidFrame.close_block hclosed rfl h.mode h.scale h.mbtotal_eq h.left_eq
  have hcode := Dec.Decodes.step (by simp [hphase]) hstep (hrem.trans (congrArg _ hafter.symm)) rfl
  exact ⟨d', hcode.trans hdec, hmid, hrem'.trans hafter⟩

/-- The decode engine takes the bits of a frame and emits its words. -/
theorem FrameCoding.decodes {isOpen : Bool} {ws : List Code} {b : Bits} (h : FrameCoding q isOpen left ws b)
    (hmid : d.MidFrame q mbtotal isOpen left) (hrem : d.remaining = b ++ rest) :
    ∃ d', Dec.Decodes b ws d d' ∧ d'.MidFrame q mbtotal false 0 := by
  induction h generalizing d with
  | nil => exact ⟨d, .refl d, hmid⟩
  | dc hw hscale _ ih =>
    obtain ⟨d1, hdec, hmid1, hrem1⟩ := hmid.step_dc hw hscale (hrem.trans (List.append_assoc ..))
    obtain ⟨d', hrest, hend⟩ := ih hmid1 hrem1
    exact ⟨d', hdec.trans hrest, hend⟩
  | ac hw _ ih =>
    obtain ⟨d1, hdec, hmid1, hrem1⟩ := hmid.step_ac hw (hrem.trans (List.append_assoc ..))
    obtain ⟨d', hrest, hend⟩ := ih hmid1 hrem1
    exact ⟨d', hdec.trans hrest, hend⟩
  | eob _ ih =>
    obtain ⟨d1, hdec, hmid1, hrem1⟩ := hmid.step_eob (hrem.trans (List.append_assoc ..))
    obtain ⟨d', hrest, hend⟩ := ih hmid1 hrem1
    exact ⟨d', hdec.trans hrest, hend⟩

end Decode

/-! ## The reader over a stored stream (R29, R60) -/

/-- Whole words stored from word address `c` on are read back from bit `16c` on. -/
theorem Dec.streamBits_of_stored {d : Dec} {b : Bits} {n c : Nat} (hlen : b.length = 16 * n)
    (hbuf : ∀ (i : Nat) (h : i < (streamBytes d.order b n).length),
      d.buf.read (2 * c + i) = (streamBytes d.order b n)[i]) :
    d.streamBits (16 * c) b.length = b := by
  refine List.ext_getElem (by simp) fun i hi hib => ?_
  have hbytes := orderBytes_of_stored (j := i / 16) (by omega) hbuf
  obtain ⟨b0, b1, hpair, hword⟩ := orderWord_orderBytes d.order (streamWord b (i / 16))
  obtain ⟨rfl, rfl⟩ : b0 = _ ∧ b1 = _ := by simpa using hpair.symm.trans hbytes
  have haddr : 2 * ((16 * c + i) / 16) = 2 * c + 2 * (i / 16) := by omega
  have hplace : (16 * c + i) % 16 = i % 16 := by omega
  rw [Dec.streamBits_getElem, Dec.streamBit, haddr, hplace, hword, streamWord_getLsbD hib (by omega)]

/-- The reader of R60 over a buffer that `BUFLEN` and `NBITS` can count, whatever `BUF_MAX` is. -/
theorem Dec.loaded_inv_of_small {order : Order} {offset : Word32} {data : List Byte} (hdata : 8 * data.length < 2 ^ 32)
    (hoffset : offset.toNat ≤ 16 * (data.length / 2)) : (Dec.loaded order offset data).Inv := by
  have hlen : (Dec.loaded order offset data).buflen.toNat = data.length := Nat.mod_eq_of_lt (by omega)
  have hsmall : 8 * (Dec.loaded order offset data).buflen.toNat < 2 ^ 32 := by rwa [hlen]
  exact
    { Dec.reset_inv with
      buf_wf := Mem.ofBytes_wf data
      buf_bound := fun a ha => by
        rw [hlen] at ha
        exact (Mem.read_ofBytes data a).trans (by rw [List.getElem?_eq_none ha]; rfl)
      buflen_small := hsmall
      cursor := by rw [Dec.nbits_of_small hsmall, hlen]; exact hoffset }

section Reader
variable {e : Enc} {words : Nat}

theorem Enc.finished_contents (hwbits : e.wbits.toNat = 16 * words) :
    Claims.contents e.finished = (List.range (8 + 2 * words)).map e.finished.obuf.read :=
  Enc.finished_output hwbits

/-- A reader over a finished frame, its cursor behind the header, reads the writer's stream. -/
theorem Enc.finished_reader (hwf : e.obuf.wf = true) (hwbits : e.wbits.toNat = 16 * words)
    (hlen : e.wstream.length = 16 * words) (hsmall : words < 2 ^ 24) :
    (Dec.loaded e.finished.order 64 (Claims.contents e.finished)).Inv ∧
      (Dec.loaded e.finished.order 64 (Claims.contents e.finished)).remaining = e.wstream := by
  have hdata : (Claims.contents e.finished).length = 8 + 2 * words := by simp [Enc.finished_contents hwbits]
  have hcursor : (64 : Word32).toNat = 64 := rfl
  have hinv : (Dec.loaded e.finished.order 64 (Claims.contents e.finished)).Inv :=
    Dec.loaded_inv_of_small (by omega) (by omega)
  have hbuflen : (Dec.loaded e.finished.order 64 (Claims.contents e.finished)).buflen.toNat = 8 + 2 * words := by
    rw [← hdata]
    exact Nat.mod_eq_of_lt (by omega)
  have hnbits : (Dec.loaded e.finished.order 64 (Claims.contents e.finished)).nbits.toNat - 64 = e.wstream.length := by
    rw [Dec.nbits_of_small hinv.buflen_small, hbuflen, hlen]
    omega
  refine ⟨hinv, ?_⟩
  show Dec.streamBits _ (16 * 4) (_ - 64) = _
  rw [hnbits]
  refine Dec.streamBits_of_stored hlen fun i hi => ?_
  have hbyte : e.finished.obuf.read (8 + i) = (streamBytes e.order e.wstream words)[i] := by
    rw [Enc.finished_eq hwbits]
    exact Mem.read_writeBytes_in (Mem.writeBytes_wf hwf 0 _) 8 i _ hi
  rw [streamBytes_length] at hi
  refine (Mem.read_ofBytes _ _).trans ?_
  simp only [Enc.finished_contents hwbits, List.getElem?_map, List.getElem?_range (show 2 * 4 + i < 8 + 2 * words by omega),
    Option.map_some, Option.getD_some]
  exact hbyte

end Reader

/-! ## The round trip (R93) -/

section RoundTrip
variable {q : BitVec 6} {mbtotal : BitVec 16} {ws : List Code} {b : Bits}

/-- `ENC_START` puts the encode engine at the start of a frame. -/
theorem Enc.start_midFrame (hmb : mbtotal ≠ 0) (version : Code) {e : Enc} (hwf : e.obuf.wf = true) :
    Enc.MidFrame q mbtotal false (6 * mbtotal.toNat)
      { Enc.reset with
        order := e.order, obuf := e.obuf, mbtotal := mbtotal, version := version, phase := .blockStart } := by
  have hfresh : (Enc.initWriter e.order e).Inv := { Enc.reset_inv with obuf_wf := hwf }
  have hinv := Enc.start_inv hfresh (Enc.start_begins hmb version _)
  have hleft : blockIndex 0 0 + 6 * mbtotal.toNat = 6 * mbtotal.toNat := Nat.zero_add _
  exact ⟨hinv, rfl, nofun, hleft, hinv.phase_between (.inl rfl) hleft⟩

/-- `ENC_START` and the `ENC_PUT`s of a frame. -/
theorem FrameCoding.exists_put_run (h : FrameCoding q false (6 * mbtotal.toNat) ws b) (hq : q ≠ 0) (hmb : mbtotal ≠ 0)
    (hfit : b.length ≤ 2 ^ 32 - 1) (version : Code) {s : State} (hwf : s.enc.obuf.wf = true) :
    ∃ t, Claims.runAll (.encStart mbtotal version :: ws.map .encPut) s = some t ∧
      t.enc.MidFrame q mbtotal false 0 ∧ t.enc.wstream = b ∧ t.enc.taken = ws := by
  obtain ⟨e, henc, hend⟩ := h.encodes hq (Enc.start_midFrame hmb version hwf) (by simpa [Enc.reset] using hfit)
  obtain ⟨t, ht, rfl⟩ := henc.runs ((s.withEnc _).respond Claims.ok0) rfl
  exact ⟨t, (runAll_cons ((encStartBeginsAnAttempt.2 s mbtotal version).2 hmb) _).trans ht, hend, henc.wstream,
    henc.taken⟩

/-- `ENC_FINISH` after them. -/
theorem FrameCoding.exists_encode_run (h : FrameCoding q false (6 * mbtotal.toNat) ws b) (hq : q ≠ 0)
    (hmb : mbtotal ≠ 0) (hcount : ws.length ≤ 65472) (version : Code) {s : State} (hwf : s.enc.obuf.wf = true) :
    ∃ (e : Enc) (t : State),
      Claims.runAll (.encStart mbtotal version :: (ws.map .encPut ++ [.encFinish])) s = some t ∧
      t.enc = e.closed.finished ∧ e.MidFrame q mbtotal false 0 ∧ e.wstream = b ∧ e.taken = ws := by
  have hbits := h.length_le
  obtain ⟨t, ht, hend, hstream, htaken⟩ := h.exists_put_run hq hmb (by omega) version hwf
  have hphase : t.enc.phase = .frameDone := hend.phase
  have hwords : t.enc.codecount.toNat = ws.length := by rw [hend.inv.count, htaken]
  have hhint : countHint t.enc.codecount.toNat ≤ 32767 := by
    simp only [hwords, countHint, roundUp32, ceilDiv]
    omega
  have hwbits : t.enc.wbits.toNat = b.length := by rw [hend.inv.wbits_len, hstream]
  have hrun := runAll_append (.encStart mbtotal version :: ws.map .encPut) [.encFinish] s
  rw [ht, Option.bind_some, runAll_cons (exec_encFinish_fits hphase hhint (by omega))] at hrun
  exact ⟨t.enc, _, hrun, rfl, hend, hstream, htaken⟩

/-- `DEC_START` and `DEC_SKIP_MB` over the bits of a frame. -/
theorem FrameCoding.exists_decode_run (h : FrameCoding q false (6 * mbtotal.toNat) ws b) (hq : q ≠ 0)
    (hmb : mbtotal ≠ 0) {s : State} (hinv : s.dec.Inv) (hopen : s.dec.phase ≠ .fault) {rest : Bits}
    (hrem : s.dec.remaining = b ++ rest) :
    ∃ u, Claims.runAll [.decStart .global q mbtotal, .decSkipMb] s = some u ∧
      u.dec.MidFrame q mbtotal false 0 ∧ u.dec.out = ws := by
  have hstart := Dec.start_begins (d := s.dec) (qmode := .global) hmb (.inr hq)
  have hinv' := Dec.start_inv hinv hopen hstart
  have hleft : blockIndex 0 0 + 6 * mbtotal.toNat = 6 * mbtotal.toNat := Nat.zero_add _
  obtain ⟨d, hdec, hend⟩ := h.decodes ⟨hinv', rfl, rfl, rfl, hleft, hinv'.phase_between (.inl rfl) hleft⟩ hrem
  obtain ⟨n, hsteps⟩ := hdec.steps
  have hskip := exec_decSkipMb_finished (s := (s.withDec _).respond Claims.ok0) (.inl rfl) hsteps hend.phase
  have hrun := runAll_cons ((decStartBeginsAFrame.2 s .global q mbtotal hopen).2.2 hmb (.inr hq)) [.decSkipMb]
  exact ⟨_, hrun.trans (runAll_cons hskip []), hend, hdec.out⟩

theorem exists_frameCoding_of_frameWords (h : Claims.frameWords q mbtotal.toNat ws) :
    ∃ b, FrameCoding q false (6 * mbtotal.toNat) ws b := by
  obtain ⟨blocks, hblocks, rfl, hwords⟩ := h
  rw [← hblocks]
  exact exists_frameCoding hwords

theorem Enc.Inv.err_none {e : Enc} (h : e.Inv) (hopen : e.phase ≠ .fault) : e.err = .none :=
  not_not.mp fun hne => hopen (h.err_iff.mp hne)

theorem Dec.Inv.err_none {d : Dec} (h : d.Inv) (hopen : d.phase ≠ .fault) : d.err = .none :=
  not_not.mp fun hne => hopen (h.err_iff.mp hne)

/-- Settles O50: the words of the frame have bits, the encode engine appends them, the reader finds them behind the
header, and the decode engine takes them. -/
theorem encodeThenDecodeGivesTheWords : Obligations.EncodeThenDecodeGivesTheWords := by
  intro s q mbtotal version ws hq hmb hframe hcount hwf
  have hq : q ≠ 0 := by rintro rfl; exact absurd hq (by decide)
  have hmb : mbtotal ≠ 0 := by rintro rfl; exact absurd hmb (by decide)
  obtain ⟨b, hcoding⟩ := exists_frameCoding_of_frameWords hframe
  obtain ⟨e, t, ht, hte, hend, hstream, htaken⟩ := hcoding.exists_encode_run hq hmb hcount version hwf
  have hbits := hcoding.length_le
  have hphase : e.phase = .frameDone := hend.phase
  have hwords : e.codecount.toNat = ws.length := by rw [hend.inv.count, htaken]
  have hwbits : e.wbits.toNat = b.length := by rw [hend.inv.wbits_len, hstream]
  have hfit : 16 * ((e.wbits.toNat + 11 + 15) / 16) ≤ 2 ^ 32 - 1 := by omega
  obtain ⟨hinv, hrem⟩ := Enc.finished_reader (e := e.closed) hend.inv.obuf_wf (Enc.closed_wbits rfl hfit)
    (Enc.closed_wstream_length hend.inv rfl hfit) (by omega)
  rw [Enc.closed_wstream rfl hfit, hstream, List.append_assoc] at hrem
  rw [← hte] at hinv hrem
  obtain ⟨u, hu, hdone, hout⟩ := hcoding.exists_decode_run
    (s := t.withDec (Dec.loaded t.enc.order 64 (Claims.contents t.enc))) hq hmb hinv nofun hrem
  have hphase' : u.dec.phase = .frameDone := hdone.phase
  have hcount' : t.enc.codecount = e.codecount := by rw [hte]; rfl
  refine ⟨t, ht, by rw [hte]; rfl, ?_, by rw [hcount', hwords], u, hu, hphase', ?_, hout, ?_⟩
  · rw [hte]
    exact hend.inv.err_none (by simp [hphase])
  · exact hdone.inv.err_none (by simp [hphase'])
  · rw [hdone.inv.count, hout, hcount', ← hwords, BitVec.ofNat_toNat, BitVec.setWidth_eq]

end RoundTrip

end Sys2Proof.Machine
end

section
/-! PROOFS. The frame header: the fields that two bytes make, `HdrValid` byte by byte, and what `HDR_PARSE` answers. -/

namespace Sys2Proof.Machine

/-! ## Two bytes as a 16-bit field (R94) -/

section Halfword
variable {hi lo hi' lo' : Byte}

theorem halfword_toNat : (hi ++ lo : Code).toNat = 256 * hi.toNat + lo.toNat := by
  rw [BitVec.toNat_append, ← Nat.shiftLeft_add_eq_or_of_lt lo.isLt, Nat.shiftLeft_eq]
  omega

theorem halfword_eq_iff : (hi ++ lo : Code) = hi' ++ lo' ↔ hi = hi' ∧ lo = lo' := by
  refine ⟨fun h => ⟨?_, ?_⟩, fun ⟨hhi, hlo⟩ => by rw [hhi, hlo]⟩
  · rw [← BitVec.extractLsb'_append_eq_left (a := hi) (b := lo), h, BitVec.extractLsb'_append_eq_left]
  · rw [← BitVec.extractLsb'_append_eq_right (a := hi) (b := lo), h, BitVec.extractLsb'_append_eq_right]

/-- The halves of a word, high one first, are the word: what `orderBytes` writes in `LE16` reads back. -/
theorem halfword_extractLsb' (w : Code) : (w.extractLsb' 8 8 ++ w.extractLsb' 0 8 : Code) = w := by
  obtain ⟨b0, b1, hbytes, hword⟩ := orderWord_orderBytes .le16 w
  cases hbytes
  exact hword

theorem halfword_zero_high (lo : Byte) : ((0 : Byte) ++ lo : Code) = lo.setWidth 16 := by
  apply BitVec.eq_of_toNat_eq
  rw [halfword_toNat, BitVec.toNat_setWidth_of_le (by decide)]
  exact Nat.zero_add _

/-- A field's sign is bit 7 of its high byte (R95). -/
theorem halfword_toInt_nonneg_iff : 0 ≤ (hi ++ lo : Code).toInt ↔ hi.toNat < 128 := by
  have := lo.isLt
  rw [BitVec.toInt_eq_toNat_cond, halfword_toNat]
  split <;> omega

/-- A field from 1 to 63 stands in its low byte alone (R95). -/
theorem halfword_toInt_qscale_iff :
    1 ≤ (hi ++ lo : Code).toInt ∧ (hi ++ lo : Code).toInt ≤ 63 ↔ 1 ≤ lo.toNat ∧ lo.toNat ≤ 63 ∧ hi = 0 := by
  have := hi.isLt
  have := lo.isLt
  have hzero : hi = 0 ↔ hi.toNat = 0 := BitVec.toNat_inj.symm
  rw [BitVec.toInt_eq_toNat_cond, halfword_toNat, hzero]
  split <;> omega

end Halfword

theorem toInt_setWidth_of_lt {m n : Nat} (x : BitVec m) (h : m < n) : (x.setWidth n).toInt = x.toNat := by
  rw [← BitVec.setWidth'_eq h.le, BitVec.toInt_setWidth'_of_lt h]

/-! ## `HdrValid` (R95) -/

theorem magic_eq_bytes : Config.magic = (0x38 : Byte) ++ (0x00 : Byte) := by decide

theorem version_eq_bytes : Config.version = (0 : Byte) ++ (2 : Byte) := by decide

section Header
variable {d : Dec}

theorem Dec.hdrOk_iff :
    d.hdrOk = true ↔
      8 ≤ d.buflen.toNat ∧ 0 ≤ (d.u16 0).toInt ∧ d.u16 2 = Config.magic ∧
        (1 ≤ (d.u16 4).toInt ∧ (d.u16 4).toInt ≤ 63) ∧ d.u16 6 = Config.version := by
  simp [Dec.hdrOk, and_assoc]

/-- `HdrValid` by the eight bytes. -/
theorem Dec.hdrOk_iff_bytes :
    d.hdrOk = true ↔
      8 ≤ d.buflen.toNat ∧ (d.buf.read 1).toNat < 128 ∧ d.buf.read 2 = 0x00 ∧ d.buf.read 3 = 0x38 ∧
        1 ≤ (d.buf.read 4).toNat ∧ (d.buf.read 4).toNat ≤ 63 ∧ d.buf.read 5 = 0 ∧ d.buf.read 6 = 2 ∧
        d.buf.read 7 = 0 := by
  have hmagic : d.u16 2 = Config.magic ↔ d.buf.read 3 = 0x38 ∧ d.buf.read 2 = 0x00 := by
    rw [magic_eq_bytes]
    exact halfword_eq_iff
  have hversion : d.u16 6 = Config.version ↔ d.buf.read 7 = 0 ∧ d.buf.read 6 = 2 := by
    rw [version_eq_bytes]
    exact halfword_eq_iff
  have hhint : 0 ≤ (d.u16 0).toInt ↔ (d.buf.read 1).toNat < 128 := halfword_toInt_nonneg_iff
  have hqscale : 1 ≤ (d.u16 4).toInt ∧ (d.u16 4).toInt ≤ 63 ↔
      1 ≤ (d.buf.read 4).toNat ∧ (d.buf.read 4).toNat ≤ 63 ∧ d.buf.read 5 = 0 := halfword_toInt_qscale_iff
  rw [Dec.hdrOk_iff, hmagic, hversion, hhint, hqscale]
  constructor
  · rintro ⟨hlen, hh, ⟨h3, h2⟩, ⟨hlow, hhigh, h5⟩, h7, h6⟩
    exact ⟨hlen, hh, h2, h3, hlow, hhigh, h5, h6, h7⟩
  · rintro ⟨hlen, hh, h2, h3, hlow, hhigh, h5, h6, h7⟩
    exact ⟨hlen, hh, ⟨h3, h2⟩, ⟨hlow, hhigh, h5⟩, h7, h6⟩

/-- The Y result of a valid header is its qscale byte (R96). -/
theorem Dec.hdrOk_qscale (h : d.hdrOk = true) : BitVec.ofInt 32 (d.u16 4).toInt = (d.buf.read 4).setWidth 32 := by
  obtain ⟨_, _, _, _, _, _, hhigh, _⟩ := Dec.hdrOk_iff_bytes.mp h
  rw [Dec.u16, hhigh, halfword_zero_high, toInt_setWidth_of_lt _ (by decide), BitVec.ofInt_natCast, BitVec.ofNat_toNat]

/-! ## `HDR_PARSE` (R96) -/

theorem Dec.hdrParse_valid (h : d.hdrOk = true) :
    d.hdrParse = .ok (Claims.ok2 1 ((d.buf.read 4).setWidth 32), d.latchHeader) := by
  rw [Dec.hdrParse, if_pos h, Dec.hdrOk_qscale h]
  rfl

theorem Dec.hdrParse_invalid (h : ¬ d.hdrOk = true) :
    d.hdrParse = .ok (⟨.formatNotRecognized, some 0, some 0, none⟩, d.clearHeader) :=
  if_neg h

end Header

theorem exec_hdrParse_eq {s : State} (hopen : s.dec.phase ≠ .fault) :
    exec .hdrParse s = .next (s.finishDec s.dec.hdrParse) :=
  State.runDec_open hopen _

/-- Settles O37: the byte conditions are `HdrValid`, and `HDR_PARSE` splits on it. -/
theorem hdrParseValidatesTheHeader : Obligations.HdrParseValidatesTheHeader := by
  refine ⟨fun _ _ _ _ => rfl, fun s hopen => ?_⟩
  rw [exec_hdrParse_eq hopen]
  refine ⟨fun hvalid => ?_, fun hvalid => ?_⟩
  · rw [Dec.hdrParse_valid (Dec.hdrOk_iff_bytes.mpr hvalid)]
    rfl
  · rw [Dec.hdrParse_invalid (mt Dec.hdrOk_iff_bytes.mp hvalid)]
    rfl

/-! ## The header that the encoder builds (R99, R100) -/

/-- The four fields of a buffer that begins with `HeaderBytes(h, q, 2)` (R94, R100). -/
theorem Dec.u16_of_headerBytes {d : Dec} {h : Code} {q : BitVec 6}
    (hbuf : ∀ i : Nat, i < 8 → d.buf.read i = (headerBytes h q 2)[i]?.getD 0) :
    d.u16 0 = h ∧ d.u16 2 = Config.magic ∧ d.u16 4 = q.setWidth 16 ∧ d.u16 6 = Config.version := by
  have field (a : Nat) (ha : a + 1 < 8) :
      d.u16 a = (headerBytes h q 2)[a + 1]?.getD 0 ++ (headerBytes h q 2)[a]?.getD 0 := by
    rw [Dec.u16, hbuf (a + 1) ha, hbuf a (by omega)]
  refine ⟨?_, ?_, ?_, ?_⟩
  · rw [field 0 (by decide)]
    exact halfword_extractLsb' h
  · rw [field 2 (by decide), magic_eq_bytes]
    rfl
  · rw [field 4 (by decide)]
    exact (halfword_zero_high _).trans (BitVec.setWidth_setWidth (by decide))
  · rw [field 6 (by decide), version_eq_bytes]
    rfl

/-- Settles O39: a hint below 2^15 is not negative, and six bits hold at most 63. -/
theorem builtHeadersAreValid : Obligations.BuiltHeadersAreValid := by
  intro d h q hh hq hlen hbuf
  obtain ⟨hhint, hmagic, hqscale, hversion⟩ := Dec.u16_of_headerBytes hbuf
  have hlt := q.isLt
  refine ⟨Dec.hdrOk_iff.mpr ⟨hlen, ?_, hmagic, ?_, hversion⟩, hhint, hqscale⟩
  · rw [hhint, BitVec.toInt_eq_toNat_of_lt (by omega)]
    omega
  · rw [hqscale, toInt_setWidth_of_lt q (by decide)]
    omega

/-! ## The count hint (R99) -/

theorem ceilDiv_le_iff {a b m : Nat} (hb : 0 < b) : ceilDiv a b ≤ m ↔ a ≤ m * b := by
  rw [ceilDiv, ← Nat.lt_add_one_iff, Nat.div_lt_iff_lt_mul hb, Nat.add_one_mul]
  omega

/-- `round_up_32(x)` is the least multiple of 32 that is at least `x` (R6). -/
theorem roundUp32_le_iff {x m : Nat} (hm : 32 ∣ m) : roundUp32 x ≤ m ↔ x ≤ m := by
  obtain ⟨k, rfl⟩ := hm
  rw [roundUp32, Nat.mul_le_mul_left_iff (by decide), ceilDiv_le_iff (by decide), Nat.mul_comm]

theorem dvd_countHint (n : Nat) : 32 ∣ countHint n := Nat.dvd_mul_right 32 _

/-- `CountHint(N)` is at most exactly those multiples of 32 that are at least half of `N`. -/
theorem countHint_le_iff {n m : Nat} (hm : 32 ∣ m) : countHint n ≤ m ↔ n ≤ 2 * m := by
  rw [countHint, roundUp32_le_iff hm, ceilDiv_le_iff (by decide), Nat.mul_comm]

/-- Settles O38. -/
theorem countHintIsTheLeastMultiple : Obligations.CountHintIsTheLeastMultiple := fun n =>
  ⟨dvd_countHint n, (countHint_le_iff (dvd_countHint n)).mp le_rfl, fun _ hm => (countHint_le_iff hm).mpr⟩

end Sys2Proof.Machine
end

section
/-! PROOFS. The control commands: the units that the resets leave, and what a register read answers. -/

namespace Sys2Proof.Machine

/-! ## The resets (R101) -/

theorem exec_decReset_eq (s : State) : exec .decReset s = Claims.decNext s Dec.reset Claims.ok0 := rfl

theorem exec_encReset_eq (s : State) : exec .encReset s = Claims.encNext s Enc.reset Claims.ok0 := rfl

/-- Settles O51: each reset leaves its unit as at power-on, and the second keeps what the first left. -/
theorem resetsRestoreTheUnits : Obligations.ResetsRestoreTheUnits :=
  ⟨fun _ _ _ _ => ⟨rfl, rfl⟩, fun s => ⟨Mem.empty, exec_decReset_eq s⟩, fun s => ⟨Mem.empty, exec_encReset_eq s⟩,
    fun _ => ⟨_, rfl, rfl, rfl⟩, rfl⟩

/-! ## The register values (R11, R14, R26) -/

theorem orderBit_eq (o : Order) : orderBit o = if o = .be16 then 1 else 0 := by cases o <;> rfl

theorem qmodeBit_eq (q : QMode) : qmodeBit q = if q = .perBlock then 1 else 0 := by cases q <;> rfl

theorem boolToNat_eq (b : Bool) : b.toNat = if b then 1 else 0 := by cases b <;> rfl

theorem Dec.nbits_eq (d : Dec) : d.nbits = BitVec.ofNat 32 (16 * (d.buflen.toNat / 2)) := by
  apply BitVec.eq_of_toNat_eq
  simp [Dec.nbits]

/-- Every register that R11 lists is the register of its number: the fields by their widths, the flags by their bits,
the phases and the errors by their codes. -/
theorem Dec.register_of_mem {d : Dec} {n : BitVec 8} {v : Nat} (h : (n, v) ∈ Claims.decRegisters d) :
    d.register n = some (BitVec.ofNat 32 v) := by
  have hall : ∀ p ∈ Claims.decRegisters d, d.register p.1 = some (BitVec.ofNat 32 p.2) := by
    simp only [Claims.decRegisters, Dec.register, Dec.cfg, Dec.nbits_eq, Dec.status, Dec.lastcode, flagWord, orderBit_eq,
      qmodeBit_eq, boolToNat_eq, mul_ite, mul_one, mul_zero, List.forall_mem_cons, List.not_mem_nil, false_imp_iff,
      implies_true, BitVec.ofNat_eq_ofNat, BitVec.toNat_ofNat, Nat.reducePow, Nat.reduceMod, BitVec.ofNat_toNat,
      BitVec.setWidth_eq, Option.some.injEq, and_true, true_and]
    exact ⟨by cases d.phase <;> rfl, by cases d.err <;> rfl⟩
  exact hall _ h

/-- The same for R14. -/
theorem Enc.register_of_mem {e : Enc} {n : BitVec 8} {v : Nat} (h : (n, v) ∈ Claims.encRegisters e) :
    e.register n = some (BitVec.ofNat 32 v) := by
  have hall : ∀ p ∈ Claims.encRegisters e, e.register p.1 = some (BitVec.ofNat 32 p.2) := by
    simp only [Claims.encRegisters, Enc.register, flagWord, orderBit_eq, boolToNat_eq, List.forall_mem_cons,
      List.not_mem_nil, false_imp_iff, implies_true, BitVec.ofNat_eq_ofNat, BitVec.toNat_ofNat, Nat.reducePow,
      Nat.reduceMod, BitVec.ofNat_toNat, BitVec.setWidth_eq, Option.some.injEq, and_true, true_and]
    exact ⟨by cases e.phase <;> rfl, by cases e.err <;> rfl⟩
  exact hall _ h

theorem Dec.register_unknown {n : BitVec 8} (h : 0x12 ≤ n.toNat) (d : Dec) : d.register n = none := by
  obtain ⟨k, hk⟩ := Nat.exists_eq_add_of_le' h
  rw [Dec.register, hk]
  rfl

theorem Enc.register_unknown {n : BitVec 8} (h : 0x0C ≤ n.toNat) (e : Enc) : e.register n = none := by
  obtain ⟨k, hk⟩ := Nat.exists_eq_add_of_le' h
  rw [Enc.register, hk]
  rfl

theorem isHeaderField_iff (n : BitVec 8) : isHeaderField n = true ↔ n = 0x0E ∨ n = 0x0F ∨ n = 0x10 := by
  simp [isHeaderField, ← BitVec.toNat_inj, or_assoc]

/-- Without a valid header the latch holds zeros (R96). -/
theorem Dec.Inv.register_headerField {d : Dec} (hinv : d.Inv) (hvalid : d.hdrValid = false) {n : BitVec 8}
    (h : n = 0x0E ∨ n = 0x0F ∨ n = 0x10) : d.register n = some 0 := by
  have hlatch := hinv.latch
  rw [Dec.latchOk, hvalid] at hlatch
  obtain ⟨hhint, hqscale, hversion⟩ : d.hdrHint = 0 ∧ d.hdrQscale = 0 ∧ d.hdrVersion = 0 := hlatch
  rcases h with rfl | rfl | rfl
  · exact congrArg (fun x : Code => some (x.setWidth 32)) hhint
  · exact congrArg (fun x : Code => some (x.setWidth 32)) hqscale
  · exact congrArg (fun x : Code => some (x.setWidth 32)) hversion

/-! ## The register reads (R102) -/

section Read
variable {s : State} {n : BitVec 8} {v : Word32}

/-- In `FAULT` every read answers OK with some value and keeps both units, whatever the number. -/
theorem State.regReadInFault_next (s : State) (r : Option Word32) :
    ∃ (t : State) (v : Word32), s.regReadInFault r = .next t ∧ t.dec = s.dec ∧ t.enc = s.enc ∧
      t.port = ⟨s.port.pending.tail, some (Claims.ok1 v)⟩ := by
  cases r with
  | none => exact ⟨_, Config.freeValue s.free, rfl, rfl, rfl, rfl⟩
  | some v => exact ⟨_, v, rfl, rfl, rfl, rfl⟩

theorem exec_decRegRead_fault (h : s.dec.phase = .fault) (n : BitVec 8) :
    exec (.decRegRead n) s = s.regReadInFault (s.dec.register n) := if_pos h

theorem exec_encRegRead_fault (h : s.enc.phase = .fault) (n : BitVec 8) :
    exec (.encRegRead n) s = s.regReadInFault (s.enc.register n) := if_pos h

theorem exec_decRegRead_open (h : s.dec.phase ≠ .fault) (n : BitVec 8) :
    exec (.decRegRead n) s = .next (s.finishDec (s.dec.regRead n)) :=
  (if_neg h).trans (State.runDec_open h _)

theorem exec_encRegRead_open (h : s.enc.phase ≠ .fault) (n : BitVec 8) :
    exec (.encRegRead n) s = .next (s.finishEnc (s.enc.regRead n)) :=
  (if_neg h).trans (State.runEnc_open h _)

/-- A known register answers its value, a header field only in `FAULT` or with a valid header in the latch. -/
theorem exec_decRegRead_shown (hreg : s.dec.register n = some v)
    (hshown : s.dec.phase = .fault ∨ s.dec.hdrValid = true ∨ isHeaderField n = false) :
    exec (.decRegRead n) s = Claims.decNext s s.dec (Claims.ok1 v) := by
  by_cases hfault : s.dec.phase = .fault
  · rw [exec_decRegRead_fault hfault, hreg]; rfl
  · have hgate : (isHeaderField n && !s.dec.hdrValid) = false := by
      rcases hshown with h | h | h
      · exact absurd h hfault
      · simp [h]
      · simp [h]
    have hread : s.dec.regRead n = .ok (respX v, s.dec) := by
      rw [Dec.regRead, hreg]
      simp [hgate]
    rw [exec_decRegRead_open hfault, hread]
    rfl

theorem exec_decRegRead_gated (hopen : s.dec.phase ≠ .fault) (hreg : s.dec.register n = some v)
    (hvalid : s.dec.hdrValid = false) (hfield : isHeaderField n = true) :
    exec (.decRegRead n) s = Claims.decRaises s .programmingFault .programmingFault := by
  have hread : s.dec.regRead n = .error .programmingFault := by
    rw [Dec.regRead, hreg]
    simp [hvalid, hfield]
  rw [exec_decRegRead_open hopen, hread]
  rfl

theorem exec_decRegRead_unknown (hopen : s.dec.phase ≠ .fault) (hreg : s.dec.register n = none) :
    exec (.decRegRead n) s = Claims.decRaises s .programmingFault .programmingFault := by
  rw [exec_decRegRead_open hopen, Dec.regRead, hreg]
  rfl

theorem exec_encRegRead_shown (hreg : s.enc.register n = some v) :
    exec (.encRegRead n) s = Claims.encNext s s.enc (Claims.ok1 v) := by
  by_cases hfault : s.enc.phase = .fault
  · rw [exec_encRegRead_fault hfault, hreg]; rfl
  · rw [exec_encRegRead_open hfault, Enc.regRead, hreg]; rfl

theorem exec_encRegRead_unknown (hopen : s.enc.phase ≠ .fault) (hreg : s.enc.register n = none) :
    exec (.encRegRead n) s = Claims.encRaises s .programmingFault .programmingFault := by
  rw [exec_encRegRead_open hopen, Enc.regRead, hreg]
  rfl

end Read

/-- Settles O52: the value of each register, the latch gate, and the numbers that are no register. -/
theorem registerReadsShowTheRegisters : Obligations.RegisterReadsShowTheRegisters := by
  refine ⟨fun _ _ _ _ => ⟨rfl, rfl⟩, fun s n v hmem => ⟨fun hshown => ?shown, fun hopen hvalid hfield => ?gated⟩,
    fun s n hn hopen => ?decUnknown, fun s n hfault => ?decFault, fun s n hinv hfault hvalid hfield => ?latched,
    fun s n hfault => ?encFault, fun s n v hmem => ?encShown, fun s n hn hopen => ?encUnknown⟩
  case shown =>
    refine exec_decRegRead_shown (Dec.register_of_mem hmem) (hshown.imp_right (Or.imp_right fun hn => ?_))
    rw [← Bool.not_eq_true, isHeaderField_iff]
    simpa only [not_or] using hn
  case gated =>
    exact exec_decRegRead_gated hopen (Dec.register_of_mem hmem) hvalid ((isHeaderField_iff n).mpr hfield)
  case decUnknown => exact exec_decRegRead_unknown hopen (Dec.register_unknown hn s.dec)
  case decFault =>
    obtain ⟨t, _, hnext, hdec, _, _⟩ := s.regReadInFault_next (s.dec.register n)
    exact ⟨t, (exec_decRegRead_fault hfault n).trans hnext, hdec⟩
  case latched => exact exec_decRegRead_shown (hinv.register_headerField hvalid hfield) (.inl hfault)
  case encFault =>
    obtain ⟨t, _, hnext, _, henc, _⟩ := s.regReadInFault_next (s.enc.register n)
    exact ⟨t, (exec_encRegRead_fault hfault n).trans hnext, henc⟩
  case encShown => exact exec_encRegRead_shown (Enc.register_of_mem hmem)
  case encUnknown => exact exec_encRegRead_unknown hopen (Enc.register_unknown hn s.enc)

/-- Settles O53: the read in `FAULT` answers OK whether or not the number is a register's. -/
theorem unknownRegisterInFaultDoesNotRaise : Obligations.UnknownRegisterInFaultDoesNotRaise := by
  refine fun s n => ⟨fun hfault _ => ?_, fun hfault _ => ?_⟩
  · rw [exec_decRegRead_fault hfault]
    exact s.regReadInFault_next _
  · rw [exec_encRegRead_fault hfault]
    exact s.regReadInFault_next _

end Sys2Proof.Machine
end

section
/-! PROOFS. Exceptions: the fault gate, and how a raise ends an instruction: which errors it can raise, that it rolls
back, and what it answers (R103-R106). -/

namespace Sys2Proof.Machine

/-! ## The fault gate (R105) -/

theorem exec_dec_gated {i : Instr} {s : State} (hcmd : i.position = .command) (hunit : runsInEnc i = false)
    (hfault : s.dec.phase = .fault) (hreset : i ≠ .decReset) (hread : ∀ n, i ≠ .decRegRead n)
    (hinit : ∀ order offset data, i ≠ .brInit order offset data) : exec i s = .next s.gatedDec := by
  cases i with
  | decReset => exact absurd rfl hreset
  | decRegRead n => exact absurd rfl (hread n)
  | brInit order offset data => exact absurd rfl (hinit order offset data)
  | brReadU | brReadS | brPos | cbDecode | hdrParse | decStart | decStep | decSkipMb | decSkipPadding =>
    exact if_pos hfault
  | encReset | encRegRead | bwInit | bwWrite | bwPos | bwFlush | cbLookup | encStart | encPut | encFinish => cases hunit
  | _ => cases hcmd

theorem exec_enc_gated {i : Instr} {s : State} (hunit : runsInEnc i = true) (hfault : s.enc.phase = .fault)
    (hreset : i ≠ .encReset) (hread : ∀ n, i ≠ .encRegRead n) (hinit : ∀ order, i ≠ .bwInit order)
    (hstart : ∀ mbtotal version, i ≠ .encStart mbtotal version) : exec i s = .next s.gatedEnc := by
  cases i with
  | encReset => exact absurd rfl hreset
  | encRegRead n => exact absurd rfl (hread n)
  | bwInit order => exact absurd rfl (hinit order)
  | encStart mbtotal version => exact absurd rfl (hstart mbtotal version)
  | bwWrite | bwPos | bwFlush | cbLookup | encPut | encFinish => exact if_pos hfault
  | _ => cases hunit

/-- A command word that decodes is the word of the instruction's encoding (R55). -/
theorem decodeCommand_word {c : Command} {i : Instr} (h : decodeCommand c = .ok i) :
    i.position = .command ∧ ∃ k, encode i = .command k ∧ k.cmd = c.cmd := by
  unfold decodeCommand at h
  split at h
  case h_23 => cases h
  all_goals
    cases h
    exact ⟨rfl, _, rfl, BitVec.eq_of_toNat_eq (Eq.symm ‹_›)⟩

/-- An instruction with another command word is not the one decoded. -/
theorem ne_of_decodeCommand {c k : Command} {i j : Instr} (h : decodeCommand c = .ok i) (hj : encode j = .command k)
    (hne : c.cmd ≠ k.cmd) : i ≠ j := by
  rintro rfl
  obtain ⟨_, k', hk', hword⟩ := decodeCommand_word h
  cases hj.symm.trans hk'
  exact hne hword.symm

/-- The unit that performs a decoded command is the one its bit 4 selects (R54). -/
theorem runsInEnc_of_decodeCommand {c : Command} {i : Instr} (h : decodeCommand c = .ok i) :
    runsInEnc i = c.cmd.getLsbD 4 := by
  obtain ⟨_, k, hk, hword⟩ := decodeCommand_word h
  rw [← isEncCommand_eq_runsInEnc, ← hword]
  exact isEncCommand_of_encode hk rfl

theorem step_dec_gated {s : State} {c : Command} {cs : List Command} (hp : s.port.pending = c :: cs)
    (hunit : c.cmd.getLsbD 4 = false) (hfault : s.dec.phase = .fault) (hreset : c.cmd ≠ 0x00) (hread : c.cmd ≠ 0x01)
    (hinit : c.cmd ≠ 0x02) : step s = .next s.gatedDec := by
  cases hd : decodeCommand c with
  | ok i =>
    rw [step_eq_exec hp hd]
    exact exec_dec_gated (decodeCommand_word hd).1 ((runsInEnc_of_decodeCommand hd).trans hunit) hfault
      (ne_of_decodeCommand hd rfl hreset) (fun _ => ne_of_decodeCommand hd rfl hread)
      (fun _ _ _ => ne_of_decodeCommand hd rfl hinit)
  | error er => rw [step_eq_illegalCommand hp hd, illegalCommand_dec hunit, State.runDec_fault hfault]

theorem step_enc_gated {s : State} {c : Command} {cs : List Command} (hp : s.port.pending = c :: cs)
    (hunit : c.cmd.getLsbD 4 = true) (hfault : s.enc.phase = .fault) (hreset : c.cmd ≠ 0x10) (hread : c.cmd ≠ 0x11)
    (hinit : c.cmd ≠ 0x12) (hstart : c.cmd ≠ 0x17) : step s = .next s.gatedEnc := by
  cases hd : decodeCommand c with
  | ok i =>
    rw [step_eq_exec hp hd]
    exact exec_enc_gated ((runsInEnc_of_decodeCommand hd).trans hunit) hfault
      (ne_of_decodeCommand hd rfl hreset) (fun _ => ne_of_decodeCommand hd rfl hread)
      (fun _ => ne_of_decodeCommand hd rfl hinit) (fun _ _ => ne_of_decodeCommand hd rfl hstart)
  | error er => rw [step_eq_illegalCommand hp hd, illegalCommand_enc hunit, State.runEnc_fault hfault]

/-- Settles O54: instruction by instruction, and for a command word by what it decodes to, if to anything. -/
theorem faultGateHolds : Obligations.FaultGateHolds := by
  refine ⟨fun i s hcmd => ⟨fun hunit => ?_, fun hunit => ?_⟩, fun s c cs hp => ⟨step_dec_gated hp, step_enc_gated hp⟩⟩
  · exact exec_dec_gated hcmd ((isEncCommand_eq_runsInEnc i).symm.trans hunit)
  · exact exec_enc_gated ((isEncCommand_eq_runsInEnc i).symm.trans hunit)

/-! ## How an instruction ends for DEC -/

/-- The instructions that read bits of the stream (R57). -/
def ReadsBits (i : Instr) : Prop :=
  i.position ≠ .command ∨ (∃ n, i = .brReadU n) ∨ (∃ n, i = .brReadS n) ∨ i = .cbDecode ∨ i = .decStep ∨
    i = .decSkipMb ∨ i = .decSkipPadding

/-- The instructions that decode an AC code or a DC field, whose bits may be no code word (R69, R71, R78). -/
def ReadsCodes (i : Instr) : Prop :=
  i.position = .ac ∨ i.position = .dcGlobal ∨ i.position = .dcPerBlock ∨ i = .cbDecode ∨ i = .decStep ∨ i = .decSkipMb

theorem ReadsCodes.readsBits {i : Instr} (h : ReadsCodes i) : ReadsBits i := by
  unfold ReadsBits
  rcases h with h | h | h | h | h | h <;> simp [h]

/-- R103's table for DEC: the errors that an instruction can raise. -/
inductive Dec.MayRaise (i : Instr) : ErrCode → Prop where
  | programmingFault : MayRaise i .programmingFault
  | endOfStream (h : ReadsBits i) : MayRaise i .endOfStream
  | readCorruption (h : ReadsCodes i) : MayRaise i .readCorruption

theorem Dec.MayRaise.ne_none {i : Instr} {e : ErrCode} (h : Dec.MayRaise i e) : e ≠ .none := by
  cases h <;> exact nofun

theorem Dec.MayRaise.of_readsCodes {i : Instr} {e : ErrCode} (hi : ReadsCodes i)
    (h : e = .endOfStream ∨ e = .readCorruption) : Dec.MayRaise i e := by
  rcases h with rfl | rfl
  · exact .endOfStream hi.readsBits
  · exact .readCorruption hi

/-- An action behind the gate raises an error that its instruction may raise, or completes outside `FAULT`. -/
def Dec.Ends (i : Instr) : Except ErrCode (Response × Dec) → Prop
  | .error e => Dec.MayRaise i e
  | .ok p => p.2.phase ≠ .fault

/-- How the instruction `i` ends for DEC (R104): DEC is not newly in `FAULT`, or the state is the one before it with one
of the errors of `i` raised; in `DEC_SKIP_MB`, with the steps before the raising one done. -/
inductive DecEnd (i : Instr) (s : State) : State → Prop where
  | notRaised {t : State} (h : s.dec.phase ≠ .fault → t.dec.phase ≠ .fault) : DecEnd i s t
  | raised {e : ErrCode} (he : Dec.MayRaise i e) : DecEnd i s (s.raiseDec e)
  | skipRaised {d : Dec} {e : ErrCode} (hi : i = .decSkipMb) (he : Dec.MayRaise i e) :
      DecEnd i s ((s.withDec d).raiseDec e)

theorem State.finishDec_end {i : Instr} {s : State} {res : Except ErrCode (Response × Dec)} (h : Dec.Ends i res) :
    DecEnd i s (s.finishDec res) := by
  cases res with
  | error e => exact .raised h
  | ok p => exact .notRaised fun _ => h

theorem State.runDec_end {i : Instr} {s t : State} {act : Dec → Except ErrCode (Response × Dec)}
    (h : s.runDec act = .next t) (hact : s.dec.phase ≠ .fault → Dec.Ends i (act s.dec)) : DecEnd i s t := by
  by_cases hfault : s.dec.phase = .fault
  · exact .notRaised fun hopen => absurd hfault hopen
  · rw [State.runDec_open hfault] at h
    cases h
    exact State.finishDec_end (hact hfault)

section DecActions
variable {i : Instr} {d : Dec}

theorem Dec.regRead_ends (n : BitVec 8) (hopen : d.phase ≠ .fault) : Dec.Ends i (d.regRead n) := by
  unfold Dec.regRead
  split
  · exact .programmingFault
  · split
    · exact .programmingFault
    · exact hopen

theorem Dec.rawRead_ends (n : BitVec 6) (view : Nat → Word32) (hi : ReadsBits i) (hopen : d.phase ≠ .fault) :
    Dec.Ends i (d.rawRead n view) := by
  cases hwidth : badWidth n with
  | true => rw [Dec.rawRead_badWidth hwidth]; exact .programmingFault
  | false =>
    by_cases hbits : Claims.bitsThere d n.toNat
    · rw [Dec.rawRead_there hwidth hbits]; exact hopen
    · rw [Dec.rawRead_missing hwidth hbits]; exact .endOfStream hi

theorem Dec.hdrParse_ends (hopen : d.phase ≠ .fault) : Dec.Ends i d.hdrParse := by
  by_cases hok : d.hdrOk = true
  · rw [Dec.hdrParse_valid hok]; exact hopen
  · rw [Dec.hdrParse_invalid hok]; exact hopen

theorem Dec.start_ends (qmode : QMode) (qscale : BitVec 6) (mbtotal : BitVec 16) :
    Dec.Ends i (Dec.start qmode qscale mbtotal d) := by
  unfold Dec.start
  split
  · exact .programmingFault
  · split
    · exact .programmingFault
    · exact nofun

theorem brInit_ends (order : Order) (offset : Word32) (data : List Byte) : Dec.Ends i (brInit order offset data) := by
  unfold brInit
  split
  · exact .programmingFault
  · split
    · exact .programmingFault
    · exact nofun

/-- The trailer's 11 bits come from either read: both end the stream or move the cursor. -/
theorem Dec.skipPaddingWith_ends {n : Nat} {read : Dec → Except ErrCode (Nat × Dec)} (hi : ReadsBits i)
    (hread : read d = .error .endOfStream ∨ ∃ v, read d = .ok (v, d.advance n)) (hopen : d.phase ≠ .fault) :
    Dec.Ends i (d.skipPaddingWith read) := by
  by_cases hplace : d.phase ≠ .frameDone ∨ d.paddone = true
  · rw [Dec.skipPaddingWith_refused hplace]; exact .programmingFault
  · rw [not_or, not_not, Bool.not_eq_true] at hplace
    obtain ⟨hphase, hfirst⟩ := hplace
    rcases hread with hread | ⟨v, hread⟩
    · rw [Dec.skipPaddingWith_error hphase hfirst hread]; exact .endOfStream hi
    · rw [Dec.skipPaddingWith_ok hphase hfirst hread]; exact hopen

/-! ### Codes and fields -/

theorem Dec.takeAc_phase_ne_fault (hopen : d.phase ≠ .fault) (k : AcKind) (w : Code) :
    (d.takeAc k w).2.phase ≠ .fault := by
  have hlog : (d.logEscZero (k == .esc) w).phase = d.phase := by
    unfold Dec.logEscZero
    split <;> rfl
  unfold Dec.takeAc
  dsimp only
  split
  · exact nofun
  · exact hlog ▸ hopen

/-- Everything that `DecodeAC` can answer (R57, R69, R71). -/
theorem decodeAC_cases (d : Dec) :
    (∃ e, decodeAC Config.codebook d = .error e ∧ (e = .endOfStream ∨ e = .readCorruption)) ∨
      ∃ k w n, decodeAC Config.codebook d = .ok (k, w, d.advance n) := by
  have hcode := decodeAC_answers d
  cases hread : decodeAC Config.codebook d with
  | error e => exact .inl ⟨e, rfl, decodeAC_error_cases hread⟩
  | ok a =>
    obtain ⟨k, w, d'⟩ := a
    rw [hread] at hcode
    obtain ⟨n, _, _, rfl⟩ := hcode
    exact .inr ⟨k, w, n, rfl⟩

theorem Dec.cbDecode_ends (hi : ReadsCodes i) (hopen : d.phase ≠ .fault) :
    Dec.Ends i (d.cbDecode Config.codebook) := by
  unfold Dec.cbDecode
  rcases decodeAC_cases d with ⟨e, hread, he⟩ | ⟨k, w, n, hread⟩
  · rw [hread]; exact .of_readsCodes hi he
  · rw [hread]; exact hopen

theorem Dec.acAction_ends (hi : ReadsCodes i) (hopen : d.phase ≠ .fault) : Dec.Ends i d.acAction := by
  unfold Dec.acAction
  rcases decodeAC_cases d with ⟨e, hread, he⟩ | ⟨k, w, n, hread⟩
  · rw [hread]; exact .of_readsCodes hi he
  · rw [hread]; exact Dec.takeAc_phase_ne_fault (d := d.advance n) hopen k w

/-- Everything that reading an AC element can answer (R57, R71). -/
theorem Dec.consumeAc_cases (d : Dec) (len : Nat) (k : AcKind) (w : Code) :
    (∃ e, d.consumeAc len k w = .error e ∧ (e = .endOfStream ∨ e = .readCorruption)) ∨
      d.consumeAc len k w = .ok (k, w, d.advance len) := by
  by_cases hbits : Claims.bitsThere d len
  · by_cases hcollide : k = .esc ∧ w = Config.eodWord
    · obtain ⟨rfl, rfl⟩ := hcollide
      exact .inl ⟨_, Dec.consumeAc_collision hbits, .inr rfl⟩
    · exact .inr (Dec.consumeAc_there hbits fun hk hw => hcollide ⟨hk, hw⟩)
  · exact .inl ⟨_, Dec.consumeAc_missing hbits k w, .inl rfl⟩

theorem Dec.acElementAction_ends (hi : ReadsCodes i) (len : Nat) (k : AcKind) (w : Code) (hopen : d.phase ≠ .fault) :
    Dec.Ends i (d.acElementAction len k w) := by
  unfold Dec.acElementAction
  rcases d.consumeAc_cases len k w with ⟨e, hread, he⟩ | hread
  · rw [hread]; exact .of_readsCodes hi he
  · rw [hread]; exact Dec.takeAc_phase_ne_fault (d := d.advance len) hopen k w

theorem Dec.takeDc_ends (hi : ReadsCodes i) (w : Code) : Dec.Ends i (d.takeDc w) := by
  unfold Dec.takeDc
  split
  · exact .readCorruption hi
  · exact nofun

/-- What `BLOCK_START` does with a DC element of `len` bits (R78). -/
def Dec.dcElementAction (len : Nat) (w : Code) (d : Dec) : Except ErrCode (Response × Dec) :=
  match d.consume len with
  | .error e => .error e
  | .ok d' => d'.takeDc w

theorem State.dcElement_eq_stepElement (s : State) (mode : QMode) (len : Nat) (w : Code) :
    s.dcElement mode len w =
      s.stepElement (s.dec.phase == .blockStart && s.dec.qmode == mode) (Dec.dcElementAction len w) := rfl

theorem Dec.dcElementAction_ends (hi : ReadsCodes i) (len : Nat) (w : Code) :
    Dec.Ends i (d.dcElementAction len w) := by
  unfold Dec.dcElementAction
  rcases d.consume_cases len with ⟨_, hread⟩ | ⟨_, hread⟩
  · rw [hread]; exact .endOfStream hi.readsBits
  · rw [hread]; exact Dec.takeDc_ends hi w

/-- `BLOCK_START` reads the DC element of the frame's mode. -/
theorem Dec.dcAction_ends (hi : ReadsCodes i) : Dec.Ends i d.dcAction := by
  obtain ⟨w, hfield⟩ := d.exists_dcField
  rw [Dec.dcAction_of_dcField hfield]
  exact Dec.dcElementAction_ends hi _ w

/-! ### The engine -/

theorem Dec.stepWith_ends {dc ac : Dec → Except ErrCode (Response × Dec)} (hopen : d.phase ≠ .fault)
    (hdc : Dec.Ends i (dc d)) (hac : Dec.Ends i (ac d)) : Dec.Ends i (Dec.stepWith dc ac d) := by
  unfold Dec.stepWith
  split
  · exact .programmingFault
  · exact hdc
  · exact hac
  · next hphase => exact (Dec.EngineStep.block (escapes := true) hphase).phase_ne_fault
  · exact hopen
  · exact absurd ‹_› hopen

theorem Dec.step_ends (hi : ReadsCodes i) (hopen : d.phase ≠ .fault) : Dec.Ends i d.step :=
  Dec.stepWith_ends hopen (Dec.dcAction_ends hi) (Dec.acAction_ends hi hopen)

end DecActions

theorem Dec.EngineRun.phase_ne_fault {d d' : Dec} (h : Dec.EngineRun d d') (hopen : d.phase ≠ .fault) :
    d'.phase ≠ .fault := by
  cases h with
  | refl => exact hopen
  | tail _ hstep => exact hstep.phase_ne_fault

/-- The error that ends the loop of `DEC_SKIP_MB` is that of the step at the unit it leaves (R81). -/
theorem Dec.step_error_of_skipLoop {fuel : Nat} {d d' : Dec} {e : ErrCode} (h : Dec.skipLoop fuel d = .raised e d') :
    d'.step = .error e := by
  induction fuel generalizing d with
  | zero =>
    unfold Dec.skipLoop at h
    split at h <;> cases h
  | succ fuel ih =>
    by_cases hphase : d.phase = .frameDone
    · rw [Dec.skipLoop_frameDone _ hphase] at h
      cases h
    · cases hstep : d.step with
      | error e' =>
        rw [Dec.skipLoop_error fuel hstep] at h
        cases h
        exact hstep
      | ok p => exact ih ((Dec.skipLoop_ok fuel hphase hstep).symm.trans h)

section DecInstructions
variable {i : Instr} {s t : State}

theorem execDecRegRead_end {n : BitVec 8} (h : execDecRegRead n s = .next t) : DecEnd i s t := by
  unfold execDecRegRead at h
  split at h
  · next hfault => exact .notRaised fun hopen => absurd hfault hopen
  · exact State.runDec_end h (Dec.regRead_ends n)

theorem execDecSkipMb_end (h : execDecSkipMb s = .next t) : DecEnd .decSkipMb s t := by
  have hi : ReadsCodes .decSkipMb := by simp [ReadsCodes]
  unfold execDecSkipMb at h
  split at h
  · next hfault => exact .notRaised fun hopen => absurd hfault hopen
  · next hopen =>
    split at h
    · cases h; exact .raised .programmingFault
    · have hrun := Dec.skipLoop_after s.dec.skipBound hopen
      cases hloop : Dec.skipLoop s.dec.skipBound s.dec with
      | finished d =>
        rw [hloop] at h hrun
        cases h
        exact .notRaised (Dec.EngineRun.phase_ne_fault hrun)
      | raised e d =>
        rw [hloop] at h hrun
        cases h
        have hstep := Dec.step_ends hi (hrun.1.phase_ne_fault hopen)
        rw [Dec.step_error_of_skipLoop hloop] at hstep
        exact .skipRaised rfl hstep
      | unfinished => rw [hloop] at h; cases h

theorem State.stepElement_end {reads : Bool} {act : Dec → Except ErrCode (Response × Dec)}
    (h : s.stepElement reads act = .next t) (hact : s.dec.phase ≠ .fault → Dec.Ends i (act s.dec)) : DecEnd i s t :=
  State.runDec_end (State.runDec_of_stepElement h) fun hopen => Dec.stepWith_ends hopen (hact hopen) (hact hopen)

theorem State.dcElement_end {mode : QMode} {len : Nat} {w : Code} (hi : ReadsCodes i)
    (h : s.dcElement mode len w = .next t) : DecEnd i s t := by
  rw [State.dcElement_eq_stepElement] at h
  exact State.stepElement_end h fun _ => Dec.dcElementAction_ends hi len w

/-- An AC element is reported under `CB_DECODE`, and elsewhere runs as the engine's action. -/
theorem State.acElement_end {len : Nat} {k : AcKind} {w : Code} (hi : ReadsCodes i)
    (h : s.acElement len k w = .next t) : DecEnd i s t := by
  cases hport : s.underCbDecode with
  | true =>
    rw [State.acElement, if_pos hport] at h
    refine State.runDec_end h fun hopen => ?_
    rcases s.dec.consumeAc_cases len k w with ⟨e, hread, he⟩ | hread
    · rw [hread]; exact .of_readsCodes hi he
    · rw [hread]; exact hopen
  | false =>
    rw [State.acElement_eq_stepElement hport] at h
    exact State.stepElement_end h (Dec.acElementAction_ends hi len k w)

theorem execTrailer_end (h : execTrailer s = .next t) : DecEnd .trailer s t := by
  have hread : s.dec.readTrailer = .error .endOfStream ∨ ∃ v, s.dec.readTrailer = .ok (v, s.dec.advance 11) := by
    by_cases hbits : Claims.bitsThere s.dec 11
    · exact .inr ⟨_, Dec.readTrailer_there hbits⟩
    · exact .inl (Dec.readTrailer_missing hbits)
  exact State.runDec_end ((exec_trailer_eq s).symm.trans h) (Dec.skipPaddingWith_ends (.inl nofun) hread)

theorem execDecSkipPadding_end (h : execDecSkipPadding s = .next t) : DecEnd .decSkipPadding s t := by
  refine State.runDec_end h (Dec.skipPaddingWith_ends (n := Config.trailer.length) (by simp [ReadsBits]) ?_)
  rcases s.dec.readBits_cases Config.trailer.length with ⟨_, hread⟩ | ⟨_, hread⟩
  · exact .inl hread
  · exact .inr ⟨_, hread⟩

theorem exec_decEnd_of_dec (h : exec i s = .next t) (hunit : runsInEnc i = false) : DecEnd i s t := by
  by_cases hac : i.position = .ac
  · obtain ⟨len, k, w, hexec⟩ := exec_eq_acElement hac
    exact State.acElement_end (.inl hac) ((hexec s).symm.trans h)
  · cases i with
    | dcGlobal | dcPerBlock => exact State.dcElement_end (by simp [ReadsCodes, Instr.position]) h
    | trailer => exact execTrailer_end h
    | decReset => cases h; exact .notRaised fun _ => nofun
    | decRegRead => exact execDecRegRead_end h
    | brInit order offset data => cases h; exact State.finishDec_end (brInit_ends order offset data)
    | brReadU | brReadS => exact State.runDec_end h (Dec.rawRead_ends _ _ (by simp [ReadsBits]))
    | brPos => exact State.runDec_end (show execBrPos s = .next t from h) id
    | cbDecode => exact State.runDec_end h (Dec.cbDecode_ends (by simp [ReadsCodes]))
    | hdrParse => exact State.runDec_end h Dec.hdrParse_ends
    | decStart => exact State.runDec_end h fun _ => Dec.start_ends ..
    | decStep => exact State.runDec_end h (Dec.step_ends (by simp [ReadsCodes]))
    | decSkipMb => exact execDecSkipMb_end h
    | decSkipPadding => exact execDecSkipPadding_end h
    | encReset | encRegRead | bwInit | bwWrite | bwPos | bwFlush | cbLookup | encStart | encPut | encFinish => cases hunit
    | _ => exact absurd rfl hac

/-- How every instruction ends for DEC: one of ENC leaves it as it was (R9). -/
theorem exec_decEnd (h : exec i s = .next t) : DecEnd i s t := by
  cases hunit : runsInEnc i with
  | false => exact exec_decEnd_of_dec h hunit
  | true =>
    have hdone := exec_completion h
    rw [isEncCommand_eq_runsInEnc, hunit] at hdone
    exact .notRaised fun hopen => hdone.dec_eq ▸ hopen

end DecInstructions

/-! ## How an instruction ends for ENC -/

/-- R103's table for ENC: the errors that an instruction can raise. -/
inductive Enc.MayRaise (i : Instr) : ErrCode → Prop where
  | programmingFault : MayRaise i .programmingFault
  | incompatible (h : (∃ w, i = .encPut w) ∨ i = .encFinish) : MayRaise i .incompatible

theorem Enc.MayRaise.ne_none {i : Instr} {er : ErrCode} (h : Enc.MayRaise i er) : er ≠ .none := by
  cases h <;> exact nofun

/-- An action behind the gate raises an error that its instruction may raise, or completes outside `FAULT`. -/
def Enc.Ends (i : Instr) : Except ErrCode (Response × Enc) → Prop
  | .error er => Enc.MayRaise i er
  | .ok p => p.2.phase ≠ .fault

/-- How the instruction `i` ends for ENC (R104): ENC is not newly in `FAULT`, or the state is the one before it with one
of the errors of `i` raised. -/
inductive EncEnd (i : Instr) (s : State) : State → Prop where
  | notRaised {t : State} (h : s.enc.phase ≠ .fault → t.enc.phase ≠ .fault) : EncEnd i s t
  | raised {er : ErrCode} (her : Enc.MayRaise i er) : EncEnd i s (s.raiseEnc er)

theorem State.finishEnc_end {i : Instr} {s : State} {res : Except ErrCode (Response × Enc)} (h : Enc.Ends i res) :
    EncEnd i s (s.finishEnc res) := by
  cases res with
  | error er => exact .raised h
  | ok p => exact .notRaised fun _ => h

theorem State.runEnc_end {i : Instr} {s t : State} {act : Enc → Except ErrCode (Response × Enc)}
    (h : s.runEnc act = .next t) (hact : s.enc.phase ≠ .fault → Enc.Ends i (act s.enc)) : EncEnd i s t := by
  by_cases hfault : s.enc.phase = .fault
  · exact .notRaised fun hopen => absurd hfault hopen
  · rw [State.runEnc_open hfault] at h
    cases h
    exact State.finishEnc_end (hact hfault)

section EncActions
variable {i : Instr} {e : Enc}

theorem Enc.regRead_ends (n : BitVec 8) (hopen : e.phase ≠ .fault) : Enc.Ends i (e.regRead n) := by
  unfold Enc.regRead
  split
  · exact .programmingFault
  · exact hopen

theorem Enc.bwWrite_ends (value : Word32) (n : BitVec 6) (hopen : e.phase ≠ .fault) :
    Enc.Ends i (e.bwWrite value n) := by
  cases hwidth : badWidth n with
  | true => rw [Enc.bwWrite_badWidth hwidth]; exact .programmingFault
  | false =>
    rcases Nat.lt_or_ge (2 ^ 32 - 1) (e.wbits.toNat + n.toNat) with hfull | hfit
    · rw [Enc.bwWrite_full hwidth hfull]; exact .programmingFault
    · rw [Enc.bwWrite_fits hwidth hfit]; exact hopen

theorem Enc.bwFlush_ends (hopen : e.phase ≠ .fault) : Enc.Ends i e.bwFlush := by
  rcases Nat.lt_or_ge (2 ^ 32 - 1) (16 * e.wordCount) with hfull | hfit
  · rw [Enc.bwFlush_full hfull]; exact .programmingFault
  · rw [Enc.bwFlush_fits hfit]; exact hopen

theorem Enc.start_ends (mbtotal : BitVec 16) (version : Code) : Enc.Ends i (Enc.start mbtotal version e) := by
  by_cases hmb : mbtotal = 0
  · rw [Enc.start_without_mb hmb]; exact .programmingFault
  · rw [Enc.start_begins hmb]; exact nofun

theorem Enc.putBits_ends {w : Code} {b : Bits} {after : Enc → Enc}
    (hafter : (after ((e.appended b).take w)).phase ≠ .fault) : Enc.Ends i (Enc.putBits w b after e) := by
  rcases Nat.lt_or_ge (2 ^ 32 - 1) (e.wbits.toNat + b.length) with hfull | hfit
  · rw [Enc.putBits_full hfull]; exact .programmingFault
  · rw [Enc.putBits_fits hfit]; exact hafter

theorem Enc.putDc_ends (w : Code) : Enc.Ends (.encPut w) (e.putDc w) := by
  have hput : (∃ w', Instr.encPut w = .encPut w') ∨ Instr.encPut w = .encFinish := .inl ⟨w, rfl⟩
  unfold Enc.putDc
  split
  · exact .programmingFault
  · split
    · exact .incompatible hput
    · split
      · exact .incompatible hput
      · exact Enc.putBits_ends nofun

theorem Enc.put_ends (w : Code) (hopen : e.phase ≠ .fault) : Enc.Ends (.encPut w) (e.put w) := by
  cases hphase : e.phase with
  | idle | frameDone | finished => rw [Enc.put_outOfSequence (by simp [hphase])]; exact .programmingFault
  | blockStart => rw [Enc.put_blockStart hphase]; exact Enc.putDc_ends w
  | inBlock =>
    rw [Enc.put_inBlock hphase]
    split
    · refine Enc.putBits_ends ?_
      rcases ((e.appended Config.eobCode).take w).advanceBlock_phase with h | h <;> rw [h] <;> exact nofun
    · exact Enc.putBits_ends hopen
  | fault => exact absurd hphase hopen

theorem Enc.finish_ends : Enc.Ends .encFinish e.finish := by
  by_cases hphase : e.phase = .frameDone
  · rcases Nat.lt_or_ge 32767 (countHint e.codecount.toNat) with hlarge | hcount
    · rw [Enc.finish_hint_too_large hphase hlarge]; exact .incompatible (.inr rfl)
    · rcases Nat.lt_or_ge (2 ^ 32 - 1) (16 * ((e.wbits.toNat + 11 + 15) / 16)) with hfull | hfit
      · rw [Enc.finish_full hphase hcount hfull]; exact .programmingFault
      · rw [Enc.finish_fits hphase hcount hfit]; exact nofun
  · rw [Enc.finish_midFrame hphase]; exact .programmingFault

end EncActions

section EncInstructions
variable {i : Instr} {s t : State}

theorem execEncRegRead_end {n : BitVec 8} (h : execEncRegRead n s = .next t) : EncEnd i s t := by
  unfold execEncRegRead at h
  split at h
  · next hfault => exact .notRaised fun hopen => absurd hfault hopen
  · exact State.runEnc_end h (Enc.regRead_ends n)

theorem exec_encEnd_of_enc (h : exec i s = .next t) (hunit : runsInEnc i = true) : EncEnd i s t := by
  cases i with
  | encReset | bwInit => cases h; exact .notRaised fun _ => nofun
  | encRegRead => exact execEncRegRead_end h
  | bwWrite => exact State.runEnc_end h (Enc.bwWrite_ends _ _)
  | bwPos => exact State.runEnc_end (show execBwPos s = .next t from h) id
  | bwFlush => exact State.runEnc_end h Enc.bwFlush_ends
  | cbLookup run level => exact State.runEnc_end (show execCbLookup run level s = .next t from h) id
  | encStart mbtotal version => cases h; exact State.finishEnc_end (Enc.start_ends mbtotal version)
  | encPut w => exact State.runEnc_end h (Enc.put_ends w)
  | encFinish => exact State.runEnc_end h fun _ => Enc.finish_ends
  | _ => cases hunit

/-- How every instruction ends for ENC: one of DEC leaves it as it was (R9). -/
theorem exec_encEnd (h : exec i s = .next t) : EncEnd i s t := by
  cases hunit : runsInEnc i with
  | true => exact exec_encEnd_of_enc h hunit
  | false =>
    have hdone := exec_completion h
    rw [isEncCommand_eq_runsInEnc, hunit] at hdone
    exact .notRaised fun hopen => hdone.enc_eq ▸ hopen

end EncInstructions

/-! ## The obligations -/

/-- Settles O55: where an instruction leaves a unit newly in `FAULT`, the next state is the raise on the state before. -/
theorem raiseRollsBack : Obligations.RaiseRollsBack := by
  intro i s t h
  refine ⟨fun hskip hopen hfault => ?_, fun hopen hfault => ?_⟩
  · cases exec_decEnd h with
    | notRaised hkept => exact absurd hfault (hkept hopen)
    | raised he => exact ⟨he.ne_none, rfl, rfl, rfl⟩
    | skipRaised hi => exact absurd hi hskip
  · cases exec_encEnd h with
    | notRaised hkept => exact absurd hfault (hkept hopen)
    | raised her => exact ⟨her.ne_none, rfl, rfl, rfl⟩

/-- R103's table for DEC, as the alternatives that O56 lists. -/
theorem Dec.MayRaise.cases_table {i : Instr} {e : ErrCode} (h : Dec.MayRaise i e) :
    e = .programmingFault ∨ (e = .endOfStream ∧ ReadsBits i) ∨ (e = .readCorruption ∧ ReadsCodes i) := by
  cases h with
  | programmingFault => exact .inl rfl
  | endOfStream hi => exact .inr (.inl ⟨rfl, hi⟩)
  | readCorruption hi => exact .inr (.inr ⟨rfl, hi⟩)

/-- Settles O56, from the errors that an instruction may raise in each unit. -/
theorem errorsComeFromTheirCommands : Obligations.ErrorsComeFromTheirCommands := by
  intro i s t h
  refine ⟨fun hopen hfault => ?_, fun hopen hfault => ?_⟩
  · cases exec_decEnd h with
    | notRaised hkept => exact absurd hfault (hkept hopen)
    | raised he | skipRaised _ he => exact he.cases_table
  · cases exec_encEnd h with
    | notRaised hkept => exact absurd hfault (hkept hopen)
    | raised her =>
      cases her with
      | programmingFault => exact .inl rfl
      | incompatible hi => exact .inr ⟨rfl, hi⟩

end Sys2Proof.Machine
end
